-- ==== Sys2Proof/Word.lean ====
section
/-! DEFINITION. The words of the block: bytes, the 64-bit event word, and the logical level of a line. -/

namespace Sys2Proof

/-- A byte of a frame. -/
abbrev Byte := BitVec 8

/-- The 64-bit word that encodes one input event (30_encoding.md R50). -/
abbrev EventWord := BitVec 64

/-- A logical bus level (00_scope.md R13): `low` is 0, the active level; `high` is 1, the passive or idle level. -/
inductive Level where
  | low
  | high
  deriving DecidableEq, Repr

end Sys2Proof
end

