-- ==== Sys2Proof/Syntax.lean ====
section
/-! DEFINITION. The six input events of the block, which play the part of its instruction set (00_scope.md R8). -/

namespace Sys2Proof

/-- One constructor per row of the opcode table; the operands are the fields of 30_encoding.md R50 and R51. -/
inductive Instr where
  /-- BEGIN, R63: `pol` is `P`, the `activeLowPolarity` argument. -/
  | begin (pol : Bool)
  /-- TICK, R71: `level` is `L`, the line level the tick samples. -/
  | tick (level : Level)
  /-- EDGE, R89: `level` is `L`, the line level at the edge; `time` is `T`, its microsecond timestamp. -/
  | edge (level : Level) (time : BitVec 32)
  /-- SEND, R66: `n` is the bit count `N`; `b0` to `b3` are the payload bytes. -/
  | send (n b0 b1 b2 b3 : Byte)
  /-- READ_RESPONSE, R103. -/
  | readResponse
  /-- IS_IDLE, R104. -/
  | isIdle
  deriving DecidableEq, Repr

end Sys2Proof
end

