-- ==== Sys2Proof/WellFormed.lean ====
section
/-! DEFINITION. Which event words are well formed (30_encoding.md R50, R53).

An `Instr` needs no check of its own: each operand's type has exactly the width of its field, and every value of every
field is encodable (R51), SEND's bit count included. What can be ill formed is a word: its opcode can be reserved, or one
of its reserved-zero bits can be set. -/

namespace Sys2Proof

/-- Bits `w[3:0]`, the opcode (R50). -/
def opcodeOf (w : EventWord) : BitVec 4 := w.extractLsb' 0 4

/-- The opcode spells an event: it is one of `0x1` to `0x6` (R50, R53). -/
def opcodeKnown (w : EventWord) : Bool := 1#4 ≤ opcodeOf w && opcodeOf w ≤ 6#4

/-- The reserved-zero bits of the event that an opcode selects, as a mask (R50, last column). -/
def reservedMask (op : BitVec 4) : EventWord :=
  if op = 1#4 then 0xFFFFFFFFFFFFFFE0#64        -- BEGIN: w[63:5]
  else if op = 2#4 then 0xFFFFFFFFFFFFFFE0#64   -- TICK: w[63:5]
  else if op = 3#4 then 0x00000000FFFFFFE0#64   -- EDGE: w[31:5]
  else if op = 4#4 then 0xFFFF0000000000F0#64   -- SEND: w[7:4], w[63:48]
  else 0xFFFFFFFFFFFFFFF0#64                    -- READ_RESPONSE, IS_IDLE: w[63:4]

/-- Every reserved-zero bit of the word is zero (R53). -/
def reservedZero (w : EventWord) : Bool := w &&& reservedMask (opcodeOf w) == 0#64

/-- The word spells an event: it passes both checks of R53. -/
def wordWellFormed (w : EventWord) : Bool := opcodeKnown w && reservedZero w

/-- Every term of `Instr` is well formed: its operands have their fields' widths by type, and R51 admits every value. -/
def Instr.wellFormed : Instr → Bool
  | .begin _ => true
  | .tick _ => true
  | .edge _ _ => true
  | .send _ _ _ _ _ => true
  | .readResponse => true
  | .isIdle => true

end Sys2Proof
end

