-- ==== Sys2Proof/Decode.lean ====
section
/-! DEFINITION. Decoding an event word (30_encoding.md R50 to R53), the encoder, and the trace syntax of R61 and R62. -/

namespace Sys2Proof

/-- Why a word spells no event (R53). -/
inductive DecodeError where
  /-- The opcode is `0x0` or `0x7` to `0xF`. -/
  | reservedOpcode
  /-- The opcode is known and one of its reserved-zero bits is set. -/
  | reservedBit
  deriving DecidableEq, Repr

/-- The level that a bit of a word stands for: 1 is `HIGH`, 0 is `LOW` (R51). -/
def levelOfBit (b : Bool) : Level := if b then .high else .low

/-- The bit that stands for a level (R51). -/
def bitOfLevel : Level → BitVec 1
  | .low => 0#1
  | .high => 1#1

/-- The event of a word that passes the checks of R53, its fields taken out as R50 places them. -/
def fieldsOf (w : EventWord) : Instr :=
  if opcodeOf w = 1#4 then .begin (w.getLsbD 4)
  else if opcodeOf w = 2#4 then .tick (levelOfBit (w.getLsbD 4))
  else if opcodeOf w = 3#4 then .edge (levelOfBit (w.getLsbD 4)) (w.extractLsb' 32 32)
  else if opcodeOf w = 4#4 then
    .send (w.extractLsb' 8 8) (w.extractLsb' 16 8) (w.extractLsb' 24 8) (w.extractLsb' 32 8) (w.extractLsb' 40 8)
  else if opcodeOf w = 5#4 then .readResponse
  else .isIdle

/-- The event a word spells, or why it spells none. Total on every 64-bit word. -/
def decode (w : EventWord) : Except DecodeError Instr :=
  if !opcodeKnown w then .error .reservedOpcode
  else if !reservedZero w then .error .reservedBit
  else .ok (fieldsOf w)

/-- The word of an event, upper bits first: the fields at the places of R50 and zero in every reserved bit. -/
def encode : Instr → EventWord
  | .begin p => 0#59 ++ BitVec.ofBool p ++ 1#4
  | .tick l => 0#59 ++ bitOfLevel l ++ 2#4
  | .edge l t => t ++ 0#27 ++ bitOfLevel l ++ 3#4
  | .send n b0 b1 b2 b3 => 0#16 ++ b3 ++ b2 ++ b1 ++ b0 ++ n ++ 0#4 ++ 4#4
  | .readResponse => 0#60 ++ 5#4
  | .isIdle => 0#60 ++ 6#4

/-- A word of the opcode table, given as a number with bit 0 least significant: the bits above `nbits` are 0, and a
number of more than 64 bits is no event word. -/
def decodeTableWord (nbits w : Nat) : Option Instr :=
  if w % 2 ^ nbits < 2 ^ 64 then
    match decode (BitVec.ofNat 64 (w % 2 ^ nbits)) with
    | .ok i => some i
    | .error _ => none
  else none

/-! ## The trace syntax (R61, R62): the word each line of a trace stands for -/

/-- `begin P` is `(P << 4) | 0x1`. -/
def traceBegin (p : Bool) : EventWord := (BitVec.ofBool p).setWidth 64 <<< 4 ||| 0x1#64

/-- `tick hi` is `0x12` and `tick lo` is `0x02`. -/
def traceTick : Level → EventWord
  | .high => 0x12#64
  | .low => 0x02#64

/-- `edge T hi` is `(T << 32) | 0x13` and `edge T lo` is `(T << 32) | 0x03`. -/
def traceEdge (t : BitVec 32) : Level → EventWord
  | .high => t.setWidth 64 <<< 32 ||| 0x13#64
  | .low => t.setWidth 64 <<< 32 ||| 0x03#64

/-- `send N B0 B1 B2 B3`. -/
def traceSend (n b0 b1 b2 b3 : Byte) : EventWord :=
  b3.setWidth 64 <<< 40 ||| b2.setWidth 64 <<< 32 ||| b1.setWidth 64 <<< 24 ||| b0.setWidth 64 <<< 16
    ||| n.setWidth 64 <<< 8 ||| 0x4#64

/-- `read`. -/
def traceRead : EventWord := 0x5#64

/-- `isidle`. -/
def traceIsIdle : EventWord := 0x6#64

/-- `send16 B0 B1` (R62). -/
def traceSend16 (b0 b1 : Byte) : EventWord := traceSend 16#8 b0 b1 0#8 0#8

/-- `send24 B0 B1 B2` (R62). -/
def traceSend24 (b0 b1 b2 : Byte) : EventWord := traceSend 24#8 b0 b1 b2 0#8

/-- `send25 B0 B1 B2` (R62). -/
def traceSend25 (b0 b1 b2 : Byte) : EventWord := traceSend 25#8 b0 b1 b2 0#8

/-- `ticks n hi` and `ticks n lo` (R62): `n` tick lines. -/
def traceTicks (n : Nat) (l : Level) : List EventWord := List.replicate n (traceTick l)

end Sys2Proof
end

