-- ==== Sys2Proof/Config.lean ====
section
/-! DEFINITION. The OPEN parameters of the block (00_scope.md R11), as the configuration record that the model takes, and
the free values (R14). The fixed constants of R11 and R12 stand in Machine/Constants.lean. -/

namespace Sys2Proof

/-- What a line driver makes of each of the two levels. -/
structure LevelMap where
  ofLow : Level
  ofHigh : Level
  deriving DecidableEq, Repr

/-- `PIN_MAP` (60_exceptions.md R114): how logical levels map to the electrical level of the transmit pin, and the
electrical level of the receive pin to a logical level, for each value of `pol`. -/
structure PinMap where
  /-- logical to electrical, transmit pin, `pol = 0` -/
  txPlain : LevelMap
  /-- logical to electrical, transmit pin, `pol = 1` -/
  txActiveLow : LevelMap
  /-- electrical to logical, receive pin, `pol = 0` -/
  rxPlain : LevelMap
  /-- electrical to logical, receive pin, `pol = 1` -/
  rxActiveLow : LevelMap
  deriving DecidableEq, Repr

/-- Which of the application's three callbacks are present (60_exceptions.md R112, R118). -/
structure Handlers where
  error : Bool
  frame : Bool
  activity : Bool
  deriving DecidableEq, Repr

/-- The configuration record of R11. No event writes it. -/
structure Config where
  /-- `TE_US`, the half-bit time in microseconds: the tick source's period; no rule of the block reads it (R115) -/
  teUs : Nat
  /-- `HALF_MIN_US` -/
  halfMinUs : Nat
  /-- `HALF_MAX_US` -/
  halfMaxUs : Nat
  /-- `FULL_MIN_US` -/
  fullMinUs : Nat
  /-- `FULL_MAX_US` -/
  fullMaxUs : Nat
  pinMap : PinMap
  handlers : Handlers
  deriving DecidableEq, Repr

/-- The constraints of R11 on the windows, which make them disjoint. They are all that a claim may assume. -/
abbrev Config.Ok (c : Config) : Prop :=
  c.halfMinUs ≤ c.halfMaxUs ∧ c.halfMaxUs < c.fullMinUs ∧ c.fullMinUs ≤ c.fullMaxUs

/-- The reference pin map of R114: `pin = level XOR pol`, on both sides. -/
def PinMap.reference : PinMap where
  txPlain := ⟨.low, .high⟩
  txActiveLow := ⟨.high, .low⟩
  rxPlain := ⟨.low, .high⟩
  rxActiveLow := ⟨.high, .low⟩

/-- The reference configuration, the default of 43_edge_receive.md R99. PRESUMED: the spec marks the five numbers as
general knowledge, not in its source (log entry 7), and the callbacks' presence is log entry 13. -/
def Config.reference : Config where
  teUs := 417
  halfMinUs := 333
  halfMaxUs := 500
  fullMinUs := 667
  fullMaxUs := 1000
  pinMap := PinMap.reference
  handlers := ⟨true, true, true⟩

/-- A free value (00_scope.md R14, `any`): the `n`-th byte drawn. It has no body, so no law is placed on it. -/
opaque Config.freeByte : Nat → Byte

end Sys2Proof
end

