-- ==== Sys2Proof/Machine/State.lean ====
section
/-! DEFINITION. The state of the block: the record of 10_state.md R16, the outputs of the last event, and the model's own
fields; why a step can stop; and the state before BEGIN. -/

namespace Sys2Proof.Machine

open Sys2Proof

/-- The bus state `st` (10_state.md R17). Exactly the twelve named values, so no reserved value exists (30_encoding.md R55). -/
inductive BusState where
  | idle
  | txStart1st
  | txStart2nd
  | txBit1st
  | txBit2nd
  | txStop1st
  | txStop
  | waitRx
  | rxStart
  | rxBit
  | rxStop
  | short
  deriving DecidableEq, Repr

/-- The seven error kinds (30_encoding.md R57, 60_exceptions.md R107). -/
inductive ErrorKind where
  | invalidParameter
  | busy
  | pulldown
  | collision
  | cannotBeHigh
  | invalidStartBit
  | timing
  deriving DecidableEq, Repr

/-- A notification (60_exceptions.md R105). A frame's bytes are carried by value (20_memory.md R45). -/
inductive Notification where
  | error (kind : ErrorKind)
  | frame (b0 b1 b2 : Byte) (len : BitVec 8)
  | activity
  | tickRestart
  | tickArm
  deriving DecidableEq, Repr

/-- The result of a host operation (30_encoding.md R56). -/
inductive Result where
  /-- SEND: SENT -/
  | sent
  /-- SEND: INVALID_PARAMETER -/
  | invalidParameter
  /-- SEND: BUSY -/
  | busy
  /-- READ_RESPONSE: VALUE(v) -/
  | value (v : Byte)
  /-- READ_RESPONSE: EMPTY -/
  | empty
  /-- READ_RESPONSE: ERROR -/
  | error
  /-- IS_IDLE: TRUE or FALSE -/
  | idle (b : Bool)
  deriving DecidableEq, Repr

/-- The outgoing frame buffer `txBuf[0..3]` (10_state.md R30). -/
structure TxBuf where
  b0 : Byte
  b1 : Byte
  b2 : Byte
  b3 : Byte
  deriving DecidableEq, Repr

/-- The state of the machine. -/
structure State where
  /-- BEGIN has been performed (R16) -/
  started : Bool
  /-- the bus state (R17) -/
  st : BusState
  /-- the Idle Counter, saturating (R26) -/
  idle : BitVec 8
  /-- the Last-Edge Timestamp (R27) -/
  lastTs : BitVec 32
  /-- the Outgoing Frame's bytes (R30) -/
  txBuf : TxBuf
  /-- the Outgoing Frame's bit length (R31) -/
  txLen : BitVec 8
  /-- the Outgoing Frame's bit cursor (R21) -/
  cursor : BitVec 8
  /-- the Outgoing Frame's collision flag (R22) -/
  coll : Bool
  /-- the level the engine last drove (R25) -/
  txLevel : Level
  /-- response mode, `rxIsResponse` (R23) -/
  rxResp : Bool
  /-- the frame is marked errored (R24) -/
  rxErr : Bool
  /-- the half-bit counter, wrapping (R28) -/
  h : BitVec 8
  /-- the Incoming Response accumulator (R32) -/
  respAcc : BitVec 16
  /-- the Incoming Command accumulator (R33) -/
  cmdAcc : BitVec 32
  /-- the `activeLowPolarity` argument of BEGIN (R34) -/
  pol : Bool
  /-- output: the last event's result, if it has one (R56) -/
  result : Option Result
  /-- output: the last event's notifications, in order (R105) -/
  outputs : List Notification
  /-- model's own: the event words the environment has yet to deliver, first one next (log entry 1) -/
  pending : List EventWord
  /-- model's own: the configuration record of 00_scope.md R11, which no event writes (log entry 7) -/
  cfg : Config
  /-- model's own: `h` has wrapped since it was last cleared, so the next frame's bytes are free (log entry 9) -/
  hWrapped : Bool
  /-- model's own: how many free values have been taken (log entry 8) -/
  draws : Nat
  deriving DecidableEq, Repr

/-- Why the machine stops with a fault. There is no such reason: no error of the block traps or stops it (60_exceptions.md
R106), and an error is a notification of an event that runs to its end. Safe: the type is empty. -/
inductive Fault where
  deriving DecidableEq, Repr

/-- Why an event is refused (30_encoding.md R54). A refused event is not performed. -/
inductive Refusal where
  /-- Raised by `exec` alone, for an instruction that has no meaning yet; no arm raises it. Safe: the run stops. -/
  | notModelled (mnemonic : String)
  /-- Raised by `step`: the word's opcode is `0x0` or `0x7` to `0xF` (R53). Safe: the run stops. -/
  | reservedOpcode
  /-- Raised by `step`: a reserved-zero bit of the word is set (R53). Safe: the run stops. -/
  | reservedBit
  /-- Raised by every event but BEGIN while `started = 0` (R64). Safe: the run stops. -/
  | notStarted
  /-- Raised by BEGIN while `started = 1` (R65, `begin_twice`). Safe: the run stops. -/
  | beginTwice
  deriving DecidableEq, Repr

/-- The state at power-on (70_reset_and_hazards.md R123): unstarted. DESIGN CHOICE: the spec lets every other field of its
record be any value there, and the model takes those of R124 (log entry 5). -/
def State.reset : State where
  started := false
  st := .idle
  idle := 0#8
  lastTs := 0#32
  txBuf := ⟨0#8, 0#8, 0#8, 0#8⟩
  txLen := 0#8
  cursor := 0#8
  coll := false
  txLevel := .high
  rxResp := false
  rxErr := false
  h := 0#8
  respAcc := 0#16
  cmdAcc := 0#32
  pol := false
  result := none
  outputs := []
  pending := []
  cfg := Config.reference
  hWrapped := false
  draws := 0

end Sys2Proof.Machine
end

