-- ==== Sys2Proof/Machine/Codes.lean ====
section
/-! DEFINITION. The numbers of the bus states, results, errors and notifications (10_state.md R17, 30_encoding.md R56 to
R58). -/

namespace Sys2Proof.Machine

/-- The number of a bus state in the 4-bit `st` (R17). -/
def BusState.code : BusState → BitVec 4
  | .idle => 0#4
  | .txStart1st => 1#4
  | .txStart2nd => 2#4
  | .txBit1st => 3#4
  | .txBit2nd => 4#4
  | .txStop1st => 5#4
  | .txStop => 6#4
  | .waitRx => 7#4
  | .rxStart => 8#4
  | .rxBit => 9#4
  | .rxStop => 10#4
  | .short => 11#4

/-- The code of an error kind (R57). -/
def ErrorKind.code : ErrorKind → BitVec 8
  | .invalidParameter => 1#8
  | .busy => 2#8
  | .pulldown => 3#8
  | .collision => 4#8
  | .cannotBeHigh => 5#8
  | .invalidStartBit => 6#8
  | .timing => 7#8

/-- The encoding of a result, with the tag of READ_RESPONSE in bits 9 and 8 (R56). -/
def Result.code : Result → BitVec 10
  | .sent => 0#10
  | .invalidParameter => 1#10
  | .busy => 2#10
  | .value v => 0#2 ++ v
  | .empty => 0x100#10
  | .error => 0x200#10
  | .idle b => 0#9 ++ BitVec.ofBool b

/-- The 40-bit word of a notification (R58). -/
def Notification.code : Notification → BitVec 40
  | .error k => 0#28 ++ k.code ++ 1#4
  | .frame b0 b1 b2 len => b2 ++ b1 ++ b0 ++ len ++ 0#4 ++ 2#4
  | .activity => 3#40
  | .tickRestart => 4#40
  | .tickArm => 5#40

end Sys2Proof.Machine
end

