-- ==== Sys2Proof/Machine/Constants.lean ====
section
/-! DEFINITION. The constants of the block (00_scope.md R11, R12). Each is a literal of the spec's source, which the
spec takes as normative and flags as unaudited (R7; log entry 11). -/

namespace Sys2Proof.Machine

/-- `SETTLE_TICKS`: a frame starts at `idle >= 26` (R74). -/
def settleTicks : BitVec 8 := 26#8

/-- `TX_STOP_TICKS`: the stop condition ends at `idle >= 4` (R79). -/
def txStopTicks : BitVec 8 := 4#8

/-- `WAIT_RX_TICKS`: the response window ends at `idle > 22` (R80). -/
def waitRxTicks : BitVec 8 := 22#8

/-- `RX_STOP_TICKS`: the drain ends at `idle > 4` (R81). -/
def rxStopTicks : BitVec 8 := 4#8

/-- `RX_END_TICKS`: a frame ends at `idle > 3` (R82). -/
def rxEndTicks : BitVec 8 := 3#8

/-- `PULLDOWN_TICKS`: a stuck-low line is reported at `idle >= 4` (R73). -/
def pulldownTicks : BitVec 8 := 4#8

/-- `RESP_HALFBITS`: a response is complete at `h >= 16` (R96) and readable at `h = 16` (R103). -/
def respHalfBits : BitVec 8 := 16#8

/-- `CMD_MIN_HALFBITS`: a command frame is delivered at `h > 16` (R82). -/
def cmdMinHalfBits : BitVec 8 := 16#8

/-- `MARKER25`: the marker bit of the 25-bit repack (R70, D9). -/
def marker25 : BitVec 1 := 1#1

end Sys2Proof.Machine
end

