-- ==== Sys2Proof/Machine/Ops.lean ====
section
/-! DEFINITION. The operations that the six events share: the pseudocode primitives of 00_scope.md R13, the transmit buffer,
the half-bit counter and the accumulators, free values, and the refusal of an event that the block may not perform. -/

namespace Sys2Proof.Machine

open Sys2Proof

/-! ## The frame of every event -/

/-- What every event that the block performs begins with: its own result and its own, empty list of notifications (R8, R105). -/
def State.startEvent (s : State) : State := { s with result := none, outputs := [] }

/-- An event that the block performs only after BEGIN (40_init_and_send.md R64). -/
def whenStarted (s next : State) : Host.Outcome State Fault Refusal :=
  if s.started then .next next else .refused .notStarted

/-- An event that the block performs only before BEGIN (40_init_and_send.md R65). -/
def whenUnstarted (s next : State) : Host.Outcome State Fault Refusal :=
  if s.started then .refused .beginTwice else .next next

/-! ## Pseudocode primitives (R13) -/

/-- `emit n`: append a notification to the event's output. -/
def State.emit (n : Notification) (s : State) : State := { s with outputs := s.outputs ++ [n] }

/-- `raise Error(k)`: the block's way of taking an exception. It appends the notification and nothing else: no trap, no
saved state, no vector, no transfer of control, and so no return (60_exceptions.md R106). -/
def State.raiseError (k : ErrorKind) (s : State) : State := s.emit (.error k)

/-- `return r`: the result of a host operation. -/
def State.returns (r : Result) (s : State) : State := { s with result := some r }

/-- `drive(v)`: `txLevel <- v`. -/
def State.drive (v : Level) (s : State) : State := { s with txLevel := v }

/-- `st <- b`. -/
def State.goto (b : BusState) (s : State) : State := { s with st := b }

/-- `isTx(s)`: the transmitting states, `1 <= s <= 6` in the numbering of R17 (10_state.md R18). -/
def isTx (b : BusState) : Bool := 1#4 ≤ b.code && b.code ≤ 6#4

/-- `not`: the opposite level. -/
def oppositeLevel : Level → Level
  | .low => .high
  | .high => .low

/-- `sat_inc_8`: one more, or 255 (R13). -/
def satInc8 (v : BitVec 8) : BitVec 8 := if v = 255#8 then v else v + 1#8

/-! ## The transmit buffer (20_memory.md R36, R38, R39) -/

/-- `MemRead(txBuf, i, 1)`, for `i` in 0..3. -/
def TxBuf.read (b : TxBuf) (i : Nat) : Option Byte :=
  match i with
  | 0 => some b.b0
  | 1 => some b.b1
  | 2 => some b.b2
  | 3 => some b.b3
  | _ => none

/-- `MemWrite(txBuf, i, 1, v)`, for `i` in 0..3; there is no other byte to write (R42). -/
def TxBuf.write (b : TxBuf) (i : Nat) (v : Byte) : TxBuf :=
  match i with
  | 0 => { b with b0 := v }
  | 1 => { b with b1 := v }
  | 2 => { b with b2 := v }
  | 3 => { b with b3 := v }
  | _ => b

/-- `txBit(i) = MemRead(txBuf, i div 8, 1)[7 - (i mod 8)]` (R39). -/
def TxBuf.bit (b : TxBuf) (i : Nat) : Option Bool :=
  (b.read (i / 8)).map fun v => v.getLsbD (7 - i % 8)

/-- `txBit(cursor)`, which R39 defines for `0 <= cursor < txLen` and the four bytes only. -/
def State.currentBit (s : State) : Option Bool :=
  if s.cursor < s.txLen then s.txBuf.bit s.cursor.toNat else none

/-- The first half-bit of a data bit: `LOW` for 1, `HIGH` for 0 (R40, R76). -/
def firstHalf (bit : Bool) : Level := if bit then .low else .high

/-! ## The half-bit counter, the error mark and the accumulators -/

/-- `h <- (h + k) mod 2^8` (10_state.md R28), remembering a wrap (log entry 9). -/
def State.addHalfBits (k : BitVec 8) (s : State) : State :=
  { s with h := s.h + k, hWrapped := s.hWrapped || decide (256 ≤ s.h.toNat + k.toNat) }

/-- `h <- 0; rxErr <- 0`: what a valid start bit, an accepted SEND and READ_RESPONSE do to the latch (R24, R28). -/
def State.clearLatch (s : State) : State := { s with h := 0#8, hWrapped := false, rxErr := false }

/-- `rxErr <- 1`, "mark the frame as errored" (R24). -/
def State.markErrored (s : State) : State := { s with rxErr := true }

/-- `respAcc <- 0; cmdAcc <- 0` (R32, R33). -/
def State.clearAccumulators (s : State) : State := { s with respAcc := 0#16, cmdAcc := 0#32 }

/-- `shift(L)`: the level goes into the least significant end of the active accumulator (43_edge_receive.md R100). -/
def State.shiftIn (l : Level) (s : State) : State :=
  if s.rxResp then { s with respAcc := s.respAcc <<< 1 ||| (bitOfLevel l).setWidth 16 }
  else { s with cmdAcc := s.cmdAcc <<< 1 ||| (bitOfLevel l).setWidth 32 }

/-! ## Free values (R14) -/

/-- The state after `k` free values have been taken; the `j`-th of them is `Config.freeByte (s.draws + j)`. -/
def State.drawn (k : Nat) (s : State) : State := { s with draws := s.draws + k }

end Sys2Proof.Machine
end

