-- ==== Sys2Proof/Machine/Begin.lean ====
section
/-! DEFINITION. BEGIN (40_init_and_send.md R63). -/

namespace Sys2Proof.Machine

open Sys2Proof

/-- The state BEGIN writes: every field of the record (R63, R124). The configuration, the queue and the count of free values
are not the block's record, and stay. -/
def beginEvent (p : Bool) (s : State) : State :=
  State.emit .tickArm
    { s.startEvent with
      started := true
      pol := p
      st := .idle
      txLevel := .high
      idle := 0#8
      lastTs := 0#32
      h := 0#8
      hWrapped := false
      respAcc := 0#16
      cmdAcc := 0#32
      rxResp := false
      rxErr := false
      coll := false
      cursor := 0#8
      txLen := 0#8
      txBuf := ⟨0#8, 0#8, 0#8, 0#8⟩ }

/-- BEGIN: refused when the block has started (R65). -/
def execBegin (p : Bool) (s : State) : Host.Outcome State Fault Refusal :=
  whenUnstarted s (beginEvent p s)

end Sys2Proof.Machine
end

