-- ==== Sys2Proof/Machine/Flags.lean ====
section
/-! DEFINITION. The conditions that the events test. The block has no condition flags (40_init_and_send.md); these tests of its state,
of the level and of the inter-edge time play their part. -/

namespace Sys2Proof.Machine

open Sys2Proof

/-- The bucket of an inter-edge time (43_edge_receive.md R99). -/
inductive Timing where
  | half
  | full
  | neither
  deriving DecidableEq, Repr

/-- `classify(delta)`: inclusive bounds, in microseconds, both windows from the configuration (R99, R11). -/
def classify (c : Config) (delta : BitVec 32) : Timing :=
  if c.halfMinUs ≤ delta.toNat ∧ delta.toNat ≤ c.halfMaxUs then .half
  else if c.fullMinUs ≤ delta.toNat ∧ delta.toNat ≤ c.fullMaxUs then .full
  else .neither

/-- `delta = (T - lastTs) mod 2^32` (42_edge_collision.md R90). -/
def State.delta (t : BitVec 32) (s : State) : BitVec 32 := t - s.lastTs

/-- The stuck-low test, on the state whose `idle` the TICK has already incremented (41_tick.md R73). -/
def pulldownFires (l : Level) (s : State) : Bool :=
  !isTx s.st && s.st != .short && l == .low && decide (pulldownTicks ≤ s.idle)

/-- A transmitting state's EDGE with the level the block drives: expected self-feedback (R92). -/
def selfFeedback (l : Level) (s : State) : Bool := isTx s.st && l == s.txLevel

/-- The `Activity` test, on the state before the event (R101). -/
def activityFires (l : Level) (s : State) : Bool := l == .high && !selfFeedback l s

/-- The half-bit counter is odd: a half-bit edge completes a bit (R96). -/
def halfBitOdd (s : State) : Bool := s.h.getLsbD 0

/-- "if in response mode and the half-bit counter has reached 16", `h >= 16` (R96). -/
def responseComplete (s : State) : Bool := s.st == .rxBit && s.rxResp && decide (respHalfBits ≤ s.h)

end Sys2Proof.Machine
end

