-- ==== Sys2Proof/Machine/Edge.lean ====
section
/-! DEFINITION. EDGE: the common part and collision detection (42_edge_collision.md R89 to R92), the receive, idle and fault
states with the Manchester decoder (43_edge_receive.md R93 to R100), and `Activity` (R101). -/

namespace Sys2Proof.Machine

open Sys2Proof

/-- The common part: `idle <- 0` and `lastTs <- T`, in every state (R90). -/
def State.noteEdge (t : BitVec 32) (s : State) : State := { s with idle := 0#8, lastTs := t }

/-- A transmitting state: a collision when the level differs from the driven one (R91), else self-feedback (R92). -/
def edgeTx (l : Level) (s : State) : State :=
  if l ≠ s.txLevel then (State.emit .tickRestart (State.raiseError .collision { s with coll := true })).goto .idle else s

/-- `WAIT_RX`: a `LOW` edge starts a response; the line cannot be `HIGH` here (R93). -/
def edgeWaitRx (l : Level) (s : State) : State :=
  match l with
  | .low => { (s.emit .tickRestart).goto .rxStart with rxResp := true }
  | .high => (s.raiseError .cannotBeHigh).goto .idle

/-- `IDLE`: a `LOW` edge starts unsolicited capture (R94). -/
def edgeIdle (l : Level) (s : State) : State :=
  match l with
  | .low => { s.goto .rxStart with rxResp := false }
  | .high => s

/-- `RX_START`: the start bit is valid on a `HIGH` edge in the half window (R95). -/
def edgeRxStart (l : Level) (delta : BitVec 32) (s : State) : State :=
  if l = .high ∧ classify s.cfg delta = .half then s.clearLatch.clearAccumulators.goto .rxBit
  else (s.raiseError .invalidStartBit).markErrored.goto .rxStop

/-- One step of the Manchester decoder, before the end-of-response test (R96). -/
def decoderStep (l : Level) (delta : BitVec 32) (s : State) : State :=
  match classify s.cfg delta with
  | .half => (if halfBitOdd s then s.shiftIn l else s).addHalfBits 1#8
  | .full => (s.shiftIn l).addHalfBits 2#8
  | .neither => (s.raiseError .timing).markErrored.goto .rxStop

/-- The end-of-response test (R96). -/
def endResponse (s : State) : State := if responseComplete s then s.goto .rxStop else s

/-- `RX_BIT` (R96). -/
def edgeRxBit (l : Level) (delta : BitVec 32) (s : State) : State := endResponse (decoderStep l delta s)

/-- `SHORT`: a `HIGH` edge recovers (R98). -/
def edgeShort (l : Level) (s : State) : State :=
  match l with
  | .low => s
  | .high => s.goto .idle

/-- The state rules (R89). -/
def edgeRule (l : Level) (delta : BitVec 32) (s : State) : State :=
  match s.st with
  | .txStart1st => edgeTx l s
  | .txStart2nd => edgeTx l s
  | .txBit1st => edgeTx l s
  | .txBit2nd => edgeTx l s
  | .txStop1st => edgeTx l s
  | .txStop => edgeTx l s
  | .waitRx => edgeWaitRx l s
  | .idle => edgeIdle l s
  | .rxStart => edgeRxStart l delta s
  | .rxBit => edgeRxBit l delta s
  | .rxStop => s
  | .short => edgeShort l s

/-- The whole EDGE: common part, state rule, then `Activity`, tested on the state before the event (R89, R101). -/
def edgeEvent (l : Level) (t : BitVec 32) (s : State) : State :=
  let s' := edgeRule l (s.delta t) (s.startEvent.noteEdge t)
  if activityFires l s then s'.emit .activity else s'

/-- EDGE. -/
def execEdge (l : Level) (t : BitVec 32) (s : State) : Host.Outcome State Fault Refusal :=
  whenStarted s (edgeEvent l t s)

end Sys2Proof.Machine
end

