-- ==== Sys2Proof/Machine/Query.lean ====
section
/-! DEFINITION. READ_RESPONSE and IS_IDLE (44_response_retrieval.md R103, R104). -/

namespace Sys2Proof.Machine

open Sys2Proof

/-- The latched response: the error mark first, then the count of half-bits (R103). -/
def latchedResponse (s : State) : Result :=
  if s.rxErr then .error
  else if s.h = respHalfBits then .value (s.respAcc.extractLsb' 0 8)
  else if s.h = 0#8 then .empty
  else .error

/-- READ_RESPONSE returns the latched response and clears the latch, in every state (R103). -/
def readEvent (s : State) : State := s.startEvent.clearLatch.returns (latchedResponse s)

/-- READ_RESPONSE. -/
def execReadResponse (s : State) : Host.Outcome State Fault Refusal := whenStarted s (readEvent s)

/-- IS_IDLE returns whether `st = IDLE` and writes nothing of the record (R104). -/
def isIdleEvent (s : State) : State := s.startEvent.returns (.idle (s.st == .idle))

/-- IS_IDLE. -/
def execIsIdle (s : State) : Host.Outcome State Fault Refusal := whenStarted s (isIdleEvent s)

end Sys2Proof.Machine
end

