-- ==== Sys2Proof/Machine/Operands.lean ====
section
/-! DEFINITION. What the events make of their operands: SEND's bit count and payload (40_init_and_send.md R66 to R70), and the
bytes of a delivered frame (41_tick.md R84 to R87). -/

namespace Sys2Proof.Machine

open Sys2Proof

/-- `N in {16, 24, 25}` (R67). -/
def sendLengthOk (n : Byte) : Bool := n == 16#8 || n == 24#8 || n == 25#8

/-- The repack of R70: `txBuf[3] <- {B2[0], 0b0000000}` and `txBuf[2] <- {MARKER25, B2[7:1]}`. -/
def repack25 (b2 : Byte) (buf : TxBuf) : TxBuf :=
  (buf.write 3 (b2.extractLsb' 0 1 ++ 0#7)).write 2 (marker25 ++ b2.extractLsb' 1 7)

/-- The Outgoing Frame's bytes after an accepted SEND: the four payload bytes, repacked for `N = 25` only (R69, R70). -/
def loadFrame (n b0 b1 b2 b3 : Byte) (buf : TxBuf) : TxBuf :=
  let copied := (((buf.write 0 b0).write 1 b1).write 2 b2).write 3 b3
  if n = 25#8 then repack25 b2 copied else copied

/-- `len = h div 2` (R84). -/
def frameLength (h : BitVec 8) : BitVec 8 := h >>> 1

/-- The realignment of a 25-bit command: `{cmdAcc[24:17], cmdAcc[16:9], cmdAcc[7:0]}`, bit 8 dropped unchecked (R86). -/
def realign25 (acc : BitVec 32) : BitVec 24 :=
  acc.extractLsb' 17 8 ++ acc.extractLsb' 9 8 ++ acc.extractLsb' 0 8

/-- The three bytes of a command frame, for the lengths 8, 16, 24 and 25: the most significant populated byte first and
zero-filled (R85). For any other length the spec gives no bytes (R87). -/
def extractFrame (len : BitVec 8) (acc : BitVec 32) : Option (Byte × Byte × Byte) :=
  if len = 8#8 then some (acc.extractLsb' 0 8, 0#8, 0#8)
  else if len = 16#8 then some (acc.extractLsb' 8 8, acc.extractLsb' 0 8, 0#8)
  else if len = 24#8 then some (acc.extractLsb' 16 8, acc.extractLsb' 8 8, acc.extractLsb' 0 8)
  else if len = 25#8 then
    some ((realign25 acc).extractLsb' 16 8, (realign25 acc).extractLsb' 8 8, (realign25 acc).extractLsb' 0 8)
  else none

/-- `extract()` of 41_tick.md R71: the bytes that the frame in the accumulator has by rule. None where they are free: a
length that R85 does not cover (R87), or any length once `h` has wrapped (R87, 93 I17; log entry 9). -/
def State.frameBytes (s : State) : Option (Byte × Byte × Byte) :=
  if s.hWrapped then none else extractFrame (frameLength s.h) s.cmdAcc

/-- `emit Frame(extract())` (R82, R85, R87): with free bytes where the rules give none. -/
def State.deliverFrame (s : State) : State :=
  match s.frameBytes with
  | some (b0, b1, b2) => s.emit (.frame b0 b1 b2 (frameLength s.h))
  | none =>
    (s.emit (.frame (Config.freeByte s.draws) (Config.freeByte (s.draws + 1)) (Config.freeByte (s.draws + 2))
      (frameLength s.h))).drawn 3

end Sys2Proof.Machine
end

