-- ==== Sys2Proof/Machine/Send.lean ====
section
/-! DEFINITION. SEND (40_init_and_send.md R66 to R70). -/

namespace Sys2Proof.Machine

open Sys2Proof

/-- A rejected SEND: its error both as a notification and as a result, and no other change (R67, R68). -/
def sendReject (k : ErrorKind) (r : Result) (s : State) : State := (s.raiseError k).returns r

/-- An accepted SEND (R69): the frame is loaded, the collision flag and the pending response are cleared, the transmitter is
armed. `idle` and `txLevel` stay. -/
def sendAccept (n b0 b1 b2 b3 : Byte) (s : State) : State :=
  (({ s with txBuf := loadFrame n b0 b1 b2 b3 s.txBuf, txLen := n, coll := false }).clearLatch.goto .txStart1st).returns .sent

/-- SEND's checks, the length before the busy test (R66, R67). -/
def sendEvent (n b0 b1 b2 b3 : Byte) (s : State) : State :=
  if !sendLengthOk n then sendReject .invalidParameter .invalidParameter s.startEvent
  else if s.st ≠ .idle then sendReject .busy .busy s.startEvent
  else sendAccept n b0 b1 b2 b3 s.startEvent

/-- SEND. -/
def execSend (n b0 b1 b2 b3 : Byte) (s : State) : Host.Outcome State Fault Refusal :=
  whenStarted s (sendEvent n b0 b1 b2 b3 s)

end Sys2Proof.Machine
end

