-- ==== Sys2Proof/Machine/Tick.lean ====
section
/-! DEFINITION. TICK (41_tick.md R71 to R88): the common part, the stuck-low detector and the state table. Every row reads the
state whose `idle` is already incremented. -/

namespace Sys2Proof.Machine

open Sys2Proof

/-- `idle <- sat_inc_8(idle)`, in every state, first (R72). -/
def State.countTick (s : State) : State := { s with idle := satInc8 s.idle }

/-- The stuck-low fault: drive `HIGH`, enter `SHORT`, raise the error (R73). -/
def tickPulldown (s : State) : State := ((s.drive .high).goto .short).raiseError .pulldown

/-- `TX_START_1ST`: wait for the settling time, then the first half of the start bit (R74). -/
def tickTxStart1st (s : State) : State :=
  if settleTicks ≤ s.idle then (s.drive .low).goto .txStart2nd else s

/-- `TX_START_2ND`: the second half of the start bit (R75). -/
def tickTxStart2nd (s : State) : State := ({ s.drive .high with cursor := 0#8 }).goto .txBit1st

/-- `TX_BIT_1ST`: the first half of data bit `cursor` (R76). Where R39 defines no such bit, a free one (log entry 10). -/
def tickTxBit1st (s : State) : State :=
  match s.currentBit with
  | some b => (s.drive (firstHalf b)).goto .txBit2nd
  | none => ((s.drive (firstHalf ((Config.freeByte s.draws).getLsbD 0))).drawn 1).goto .txBit2nd

/-- `TX_BIT_2ND`: the second half of the data bit, then the next bit or the stop condition (R77). -/
def tickTxBit2nd (s : State) : State :=
  let s' := { s.drive (oppositeLevel s.txLevel) with cursor := s.cursor + 1#8 }
  if s'.cursor < s'.txLen then s'.goto .txBit1st else s'.goto .txStop1st

/-- `TX_STOP_1ST` (R78). -/
def tickTxStop1st (s : State) : State := (s.drive .high).goto .txStop

/-- `TX_STOP`: hold the stop condition, then open the response window with `idle` at 0 (R79). -/
def tickTxStop (s : State) : State :=
  if txStopTicks ≤ s.idle then ({ s with idle := 0#8 }).goto .waitRx else s

/-- `WAIT_RX`: no response arrived (R80). -/
def tickWaitRx (s : State) : State := if waitRxTicks < s.idle then s.goto .idle else s

/-- `RX_STOP`: the drain ends (R81). -/
def tickRxStop (s : State) : State := if rxStopTicks < s.idle then s.goto .idle else s

/-- `RX_START` and `RX_BIT`, one shared branch: the frame boundary detector (R82). -/
def tickRxEnd (s : State) : State :=
  if rxEndTicks < s.idle then (if cmdMinHalfBits < s.h then s.deliverFrame else s).goto .idle else s

/-- The state table (R74 to R83). -/
def tickTable (s : State) : State :=
  match s.st with
  | .txStart1st => tickTxStart1st s
  | .txStart2nd => tickTxStart2nd s
  | .txBit1st => tickTxBit1st s
  | .txBit2nd => tickTxBit2nd s
  | .txStop1st => tickTxStop1st s
  | .txStop => tickTxStop s
  | .waitRx => tickWaitRx s
  | .rxStop => tickRxStop s
  | .rxStart => tickRxEnd s
  | .rxBit => tickRxEnd s
  | .idle => s
  | .short => s

/-- The detector, or else the table (R71, R73, 60_exceptions.md R111). -/
def tickRule (l : Level) (s : State) : State := if pulldownFires l s then tickPulldown s else tickTable s

/-- The whole TICK (R71). -/
def tickEvent (l : Level) (s : State) : State := tickRule l s.startEvent.countTick

/-- TICK. -/
def execTick (l : Level) (s : State) : Host.Outcome State Fault Refusal := whenStarted s (tickEvent l s)

end Sys2Proof.Machine
end

