-- ==== Sys2Proof/Machine/Dispatch.lean ====
section
/-! DEFINITION. What each event does: one arm per constructor of Instr. -/

namespace Sys2Proof.Machine

def exec (i : Instr) (s : State) : Host.Outcome State Fault Refusal :=
  match i with
  | .begin p => Sys2Proof.Machine.execBegin p s
  | .tick l => Sys2Proof.Machine.execTick l s
  | .edge l t => Sys2Proof.Machine.execEdge l t s
  | .send n b0 b1 b2 b3 => Sys2Proof.Machine.execSend n b0 b1 b2 b3 s
  | .readResponse => Sys2Proof.Machine.execReadResponse s
  | .isIdle => Sys2Proof.Machine.execIsIdle s

end Sys2Proof.Machine
end

