-- ==== Sys2Proof/Machine/Fetch.lean ====
section
/-! DEFINITION. Taking the next event: the block has no program to fetch from (20_memory.md R49), so the next instruction is the
first event word that the environment has yet to deliver (00_scope.md R8, 20_memory.md R46, R47). -/

namespace Sys2Proof.Machine

open Sys2Proof

/-- The refusal of a word that spells no event (30_encoding.md R53, R54). -/
def refusalOf : DecodeError → Refusal
  | .reservedOpcode => .reservedOpcode
  | .reservedBit => .reservedBit

/-- The next event word, and the state with that word taken off the queue. -/
def State.takeWord (s : State) : Option (EventWord × State) :=
  match s.pending with
  | [] => none
  | w :: rest => some (w, { s with pending := rest })

/-- The state with a word put first on the queue. -/
def State.putWord (s : State) (w : EventWord) : State := { s with pending := w :: s.pending }

/-- The state in which the block can perform an event: as BEGIN leaves an unstarted block, where the event is another than
BEGIN (R64; log entry 6). Otherwise the state as it is. -/
def State.readyFor (s : State) : Instr → State
  | .begin _ => s
  | .tick _ => if s.started then s else beginEvent false s
  | .edge _ _ => if s.started then s else beginEvent false s
  | .send _ _ _ _ _ => if s.started then s else beginEvent false s
  | .readResponse => if s.started then s else beginEvent false s
  | .isIdle => if s.started then s else beginEvent false s

/-- The state in which the environment delivers a word next, to a block that is ready for the event the word spells. -/
def State.loadWord (s : State) (w : EventWord) : State :=
  match decode w with
  | .ok i => (s.readyFor i).putWord w
  | .error _ => s.putWord w

/-- The event word of a number of `nbits` bits: the bits above `nbits` are 0. -/
def wordOfTable (nbits w : Nat) : EventWord := BitVec.ofNat 64 (w % 2 ^ nbits)

end Sys2Proof.Machine
end

