-- ==== Sys2Proof/Machine/Step.lean ====
section
/-! DEFINITION. One step of the machine: it takes the first pending event word, decodes it and runs it. -/

namespace Sys2Proof.Machine

open Sys2Proof

/-- One step (00_scope.md R8, 20_memory.md R46). With no event word pending nothing happens: the block changes state only in
response to an event (log entry 2). A word that spells no event is refused (30_encoding.md R54). -/
def step (s : State) : Host.Outcome State Fault Refusal :=
  match s.takeWord with
  | none => .next s
  | some (w, s') =>
    match decode w with
    | .error e => .refused (refusalOf e)
    | .ok i => exec i s'

/-- The state in which the environment's next event is the given opcode-table word, and the block has had the BEGIN that the
event needs (log entry 6). -/
def State.withFetchWord (s : State) (nbits w : Nat) : State := s.loadWord (wordOfTable nbits w)

end Sys2Proof.Machine
end

