-- ==== Sys2Proof/Machine/Platform.lean ====
section
/-! DEFINITION. The block's side of its platform interfaces (60_exceptions.md R112, R114, R118): what the line driver makes of
the logical levels, and who receives which notification. No event uses these. -/

namespace Sys2Proof.Machine

open Sys2Proof

/-- A level put through a level map. -/
def applyLevelMap (m : LevelMap) : Level → Level
  | .low => m.ofLow
  | .high => m.ofHigh

/-- The electrical level of the transmit pin: `txLevel` through `PIN_MAP`, for the polarity of BEGIN (R114). -/
def State.txPin (s : State) : Level :=
  applyLevelMap (if s.pol then s.cfg.pinMap.txActiveLow else s.cfg.pinMap.txPlain) s.txLevel

/-- The logical level that a TICK or an EDGE carries for an electrical level of the receive pin (R114). -/
def State.rxLevel (s : State) (pin : Level) : Level :=
  applyLevelMap (if s.pol then s.cfg.pinMap.rxActiveLow else s.cfg.pinMap.rxPlain) pin

/-- The application has a callback for the notification. `TickRestart` and `TickArm` go to the tick source, not to the
application (R118). -/
def hasHandler (p : Handlers) : Notification → Bool
  | .error _ => p.error
  | .frame _ _ _ _ => p.frame
  | .activity => p.activity
  | .tickRestart => false
  | .tickArm => false

/-- The notification is a request to the tick source (R105, R118). -/
def forTickSource : Notification → Bool
  | .error _ => false
  | .frame _ _ _ _ => false
  | .activity => false
  | .tickRestart => true
  | .tickArm => true

/-- What the application's callbacks receive of the last event, in list order: a notification whose callback is absent is
dropped (R112). -/
def State.delivered (s : State) : List Notification := s.outputs.filter (hasHandler s.cfg.handlers)

/-- What the tick source receives of the last event, in list order (R115). -/
def State.tickRequests (s : State) : List Notification := s.outputs.filter forTickSource

end Sys2Proof.Machine
end

