-- ==== Sys2Proof/Safety.lean ====
section
/-! DEFINITION. The terms that claims are stated in: runs of events, the invariant of the block, the transmitted waveform and
the edges of a received frame. -/

namespace Sys2Proof.Machine

open Sys2Proof

/-! ## Runs of events -/

/-- The events of a list, one after another, stopping at the first that is refused (20_memory.md R46, R47). -/
def execAll : List Instr → State → Host.Outcome State Fault Refusal
  | [], s => .next s
  | i :: is, s =>
    match exec i s with
    | .next t => execAll is t
    | .fault f => .fault f
    | .refused r => .refused r

/-- `n` ticks that sample `HIGH`. -/
def highTicks (n : Nat) : List Instr := List.replicate n (.tick .high)

/-- An undisturbed run: TICKs that sample `HIGH` or, in a transmitting state, any level, and EDGEs that are the self-feedback of
the block's own drive (60_exceptions.md R108). -/
def Undisturbed : List Instr → State → Prop
  | [], _ => True
  | i :: is, s =>
    ((∃ l, i = .tick l ∧ (l = .high ∨ isTx s.st = true)) ∨ (∃ l ts, i = .edge l ts ∧ selfFeedback l s = true)) ∧
    ∀ t, exec i s = .next t → Undisturbed is t

/-- A run in which no reception happens: no EDGE of it is met in `RX_START` or `RX_BIT`. -/
def NoReception : List Instr → State → Prop
  | [], _ => True
  | i :: is, s =>
    ((∃ l ts, i = .edge l ts) → s.st ≠ .rxStart ∧ s.st ≠ .rxBit) ∧ ∀ t, exec i s = .next t → NoReception is t

/-- The outcome with its next state put through a function: two outcomes that agree after it differ at most in what the
function forgets. -/
def mapNext (f : State → State) : Host.Outcome State Fault Refusal → Host.Outcome State Fault Refusal
  | .next t => .next (f t)
  | .fault r => .fault r
  | .refused r => .refused r

/-! ## What the common part of an event leaves -/

/-- The state after the common part of a TICK: `idle` incremented (41_tick.md R72) and no output yet. -/
def ticked (s : State) : State := { s with idle := satInc8 s.idle, result := none, outputs := [] }

/-- The state after the common part of an EDGE at time `t` (42_edge_collision.md R90), with no output yet. -/
def edged (t : BitVec 32) (s : State) : State := { s with idle := 0#8, lastTs := t, result := none, outputs := [] }

/-- The output of an EDGE that is not self-feedback and raises no error: `Activity` on a `HIGH` edge (43_edge_receive.md R101). -/
def activityOf (l : Level) : List Notification := if l = .high then [.activity] else []

/-- A TICK of this level finds the line stuck low in this state (41_tick.md R73). -/
def StuckLow (l : Level) (s : State) : Prop :=
  isTx s.st = false ∧ s.st ≠ .short ∧ l = .low ∧ 4 ≤ (satInc8 s.idle).toNat

/-! ## The causes of the errors (60_exceptions.md R107) -/

/-- The event and the state before it that raise an error of each kind: the column "raised when". -/
def RaisedWhen (i : Instr) (s : State) : ErrorKind → Prop
  | .invalidParameter => ∃ n b0 b1 b2 b3, i = .send n b0 b1 b2 b3 ∧ n ≠ 16#8 ∧ n ≠ 24#8 ∧ n ≠ 25#8
  | .busy => ∃ n b0 b1 b2 b3, i = .send n b0 b1 b2 b3 ∧ (n = 16#8 ∨ n = 24#8 ∨ n = 25#8) ∧ s.st ≠ .idle
  | .pulldown => ∃ l, i = .tick l ∧ StuckLow l s
  | .collision => ∃ l ts, i = .edge l ts ∧ isTx s.st = true ∧ l ≠ s.txLevel
  | .cannotBeHigh => ∃ ts, i = .edge .high ts ∧ s.st = .waitRx
  | .invalidStartBit => ∃ l ts, i = .edge l ts ∧ s.st = .rxStart ∧ (l = .low ∨ classify s.cfg (ts - s.lastTs) ≠ .half)
  | .timing => ∃ l ts, i = .edge l ts ∧ s.st = .rxBit ∧ classify s.cfg (ts - s.lastTs) = .neither

/-- The state `t` that an error leaves, from the state `s` before its event: the column "state after". -/
def StateAfterError (s t : State) : ErrorKind → Prop
  | .invalidParameter => { t with result := s.result, outputs := s.outputs } = s
  | .busy => { t with result := s.result, outputs := s.outputs } = s
  | .pulldown => t.st = .short ∧ t.txLevel = .high
  | .collision => t.st = .idle ∧ t.coll = true
  | .cannotBeHigh => t.st = .idle
  | .invalidStartBit => t.st = .rxStop ∧ t.rxErr = true
  | .timing => t.st = .rxStop ∧ t.rxErr = true

/-! ## The invariant -/

/-- What holds of every state a run from reset reaches (each field names its rule). A step keeps it. -/
structure State.Inv (s : State) : Prop where
  /-- 00_scope.md R11: the windows are ordered and disjoint -/
  windows : s.cfg.Ok
  /-- 10_state.md R31: in a transmitting state the frame has 16, 24 or 25 bits -/
  sendLength : isTx s.st = true → s.txLen = 16#8 ∨ s.txLen = 24#8 ∨ s.txLen = 25#8
  /-- R21: while data bits are sent, `cursor < txLen` -/
  bitCursor : s.st = .txBit1st ∨ s.st = .txBit2nd → s.cursor < s.txLen
  /-- R21: in the stop condition, `cursor = txLen` -/
  stopCursor : s.st = .txStop1st ∨ s.st = .txStop → s.cursor = s.txLen
  /-- 41_tick.md R77: `cursor` never exceeds 25 -/
  cursorBound : s.cursor ≤ 25#8
  /-- R74: between the halves of the start bit the block drives `LOW` -/
  startDriven : s.st = .txStart2nd → s.txLevel = .low
  /-- R76: between the halves of a data bit the block drives that bit's first half -/
  bitDriven : s.st = .txBit2nd → s.currentBit.map firstHalf = some s.txLevel
  /-- R78, R79, R73: in the stop condition, the response window and `SHORT` the block drives `HIGH` -/
  stopDriven : s.st = .txStop ∨ s.st = .waitRx ∨ s.st = .short → s.txLevel = .high
  /-- 40_init_and_send.md R69, R93: from an accepted SEND to a response's first edge the latch is clear -/
  latchClear : isTx s.st = true ∨ s.st = .waitRx → s.h = 0#8 ∧ s.rxErr = false ∧ s.hWrapped = false
  /-- R82, R96: in response mode `RX_BIT` is left as soon as `h >= 16` -/
  responseCount : s.st = .rxBit → s.rxResp = true → s.h < 16#8

/-! ## The transmitted waveform (41_tick.md R88) -/

/-- The half-bit levels of a frame: start bit, data bits, and the first level of the stop condition. -/
def waveform (bits : List Bool) : List Level :=
  [.low, .high] ++ bits.flatMap (fun b => if b then [.low, .high] else [.high, .low]) ++ [.high]

/-- The bits of a buffer are the outgoing bit stream `txBit(0), txBit(1), …` (20_memory.md R39). -/
def wireBits (buf : TxBuf) (bits : List Bool) : Prop := ∀ i, (h : i < bits.length) → buf.bit i = some bits[i]

/-- The level driven after each TICK of an undisturbed run: TICKs, and between them EDGEs that are self-feedback (R92).
None for any other list of events. -/
def tickLevels : List Instr → State → Option (List Level)
  | [], _ => some []
  | .tick l :: is, s =>
    match exec (.tick l) s with
    | .next t => (tickLevels is t).map (t.txLevel :: ·)
    | .fault _ => none
    | .refused _ => none
  | .edge l ts :: is, s =>
    match selfFeedback l s, exec (.edge l ts) s with
    | true, .next t => tickLevels is t
    | _, _ => none
  | .begin _ :: _, _ => none
  | .send _ _ _ _ _ :: _, _ => none
  | .readResponse :: _, _ => none
  | .isIdle :: _, _ => none

/-! ## The edges of a received frame (43_edge_receive.md R102) -/

/-- The edges that data bits make on the line, after a bit (or the start bit) that left the level `p`, each with the
bucket its distance falls in: a boundary edge and a mid edge where the bit repeats, a mid edge two half-bits later where
it differs, and after the last bit the return to `HIGH`. -/
def frameEdges : Level → List Bool → List (Timing × Level)
  | .high, [] => []
  | .low, [] => [(.half, .high)]
  | .high, true :: bs => (.half, .low) :: (.half, .high) :: frameEdges .high bs
  | .high, false :: bs => (.full, .low) :: frameEdges .low bs
  | .low, true :: bs => (.full, .high) :: frameEdges .high bs
  | .low, false :: bs => (.half, .high) :: (.half, .low) :: frameEdges .low bs

/-- An event that may fall between two edges of a reception: it neither is an EDGE nor clears the latch. READ_RESPONSE during a
reception is the hazard of 70_reset_and_hazards.md R127. -/
def fallsBetween : Instr → Bool
  | .begin _ => false
  | .tick _ => true
  | .edge _ _ => false
  | .send _ _ _ _ _ => true
  | .readResponse => false
  | .isIdle => true

/-- The event is a TICK. -/
def isTick : Instr → Bool
  | .begin _ => false
  | .tick _ => true
  | .edge _ _ => false
  | .send _ _ _ _ _ => false
  | .readResponse => false
  | .isIdle => false

/-- The number of TICKs among some events. -/
def tickCount (is : List Instr) : Nat := is.countP isTick

/-- Events that may fall between two edges where `idle` is at first the given number: their TICKs, of either level, leave it
at most 3, so no timeout of 41_tick.md acts. -/
def quietGap (idle : Nat) (is : List Instr) : Bool :=
  is.all fallsBetween && (tickCount is == 0 || decide (idle + tickCount is ≤ 3))

/-- An edge of a reception: the events since the edge before it, its distance from that edge, and its level. -/
structure Arrival where
  gap : List Instr
  distance : BitVec 32
  level : Level
  deriving DecidableEq, Repr

/-- The events of a reception: each edge after its gap, at its distance from the edge before it, the first from the time `t`. -/
def arrivals : BitVec 32 → List Arrival → List Instr
  | _, [] => []
  | t, a :: as => a.gap ++ .edge a.level (t + a.distance) :: arrivals (t + a.distance) as

/-- Every gap of a reception is quiet; the first one begins with the given `idle`, and each later one after an EDGE, with 0. -/
def gapsQuiet : Nat → List Arrival → Bool
  | _, [] => true
  | idle, a :: as => quietGap idle a.gap && gapsQuiet 0 as

/-- Edges at distances that the block's windows put in the buckets of a frame's edges. -/
def timedAs (c : Config) (as : List Arrival) (want : List (Timing × Level)) : Prop :=
  as.map (fun a => (classify c a.distance, a.level)) = want

/-- The value of bits, the first the most significant (20_memory.md R41). -/
def bitsValue (bits : List Bool) : Nat := bits.foldl (fun v b => 2 * v + b.toNat) 0

/-- The half-bits a whole frame of these data bits leaves in `h`: two a bit, and one for a stop edge (R102). -/
def frameHalfBits (bits : List Bool) : Nat := 2 * bits.length + (if bits.getLast? = some false then 1 else 0)

end Sys2Proof.Machine
end

