-- ==== Sys2Proof/Certificates/Slice0/Obligations.lean ====
section
/-! DEFINITION. The statements for the provers. Each is about the model alone; its docstring names the rule of the spec it
formalises, and where it rests on a choice, whose choice that is. -/

open Sys2Proof Sys2Proof.Machine

/-! ## Encodings -/

/-- 30_encoding.md R50, R51: no bit of any event's encoding is dropped. -/
def Obligations.DecodeOfEncode : Prop := ∀ i : Instr, decode (encode i) = .ok i

/-- 30_encoding.md R50, R53: each event has one word. -/
def Obligations.EncodeOfDecode : Prop := ∀ (w : EventWord) (i : Instr), decode w = .ok i → encode i = w

/-- R53 with the masks and matches of the opcode table: these words spell events and every other word is reserved. -/
def Obligations.ReservedWordsSpellNoEvent : Prop :=
  ∀ w : EventWord, (∃ i, decode w = .ok i) ↔
    (w &&& 0xFFFFFFFFFFFFFFEF#64 = 0x1#64 ∨ w &&& 0xFFFFFFFFFFFFFFEF#64 = 0x2#64 ∨
     w &&& 0x00000000FFFFFFEF#64 = 0x3#64 ∨ w &&& 0xFFFF0000000000FF#64 = 0x4#64 ∨ w = 0x5#64 ∨ w = 0x6#64)

/-- Words of 95_test_vectors.md (B2, P1, P2, V12, P5) and the events they stand for. -/
def Obligations.TableWordsDecode : Prop :=
  decode 0x11#64 = .ok (.begin true) ∧ decode 0x2#64 = .ok (.tick .low) ∧ decode 0x12#64 = .ok (.tick .high) ∧
  decode 0x0000364D00000003#64 = .ok (.edge .low 13901#32) ∧
  decode 0x775634121904#64 = .ok (.send 25#8 0x12#8 0x34#8 0x56#8 0x77#8) ∧
  decode 0x5#64 = .ok .readResponse ∧ decode 0x6#64 = .ok .isIdle

/-- R61 and R62: each line of the trace syntax is the word of its event. -/
def Obligations.TraceSyntaxSpellsEncodings : Prop :=
  (∀ p, traceBegin p = encode (.begin p)) ∧ (∀ l, traceTick l = encode (.tick l)) ∧
  (∀ t l, traceEdge t l = encode (.edge l t)) ∧
  (∀ n b0 b1 b2 b3, traceSend n b0 b1 b2 b3 = encode (.send n b0 b1 b2 b3)) ∧
  traceRead = encode .readResponse ∧ traceIsIdle = encode .isIdle ∧
  (∀ b0 b1, traceSend16 b0 b1 = encode (.send 16#8 b0 b1 0#8 0#8)) ∧
  (∀ b0 b1 b2, traceSend24 b0 b1 b2 = encode (.send 24#8 b0 b1 b2 0#8)) ∧
  (∀ b0 b1 b2, traceSend25 b0 b1 b2 = encode (.send 25#8 b0 b1 b2 0#8)) ∧
  (∀ n l, traceTicks n l = List.replicate n (encode (.tick l)))

/-- 10_state.md R17, 30_encoding.md R56, R57 and R58: the numbers of the bus states, results, errors and notifications. -/
def Obligations.CodesFollowTheTables : Prop :=
  ([BusState.idle, .txStart1st, .txStart2nd, .txBit1st, .txBit2nd, .txStop1st, .txStop, .waitRx, .rxStart, .rxBit, .rxStop,
      .short].map (fun b => b.code.toNat)) = List.range 12 ∧
  ([ErrorKind.invalidParameter, .busy, .pulldown, .collision, .cannotBeHigh, .invalidStartBit, .timing].map
      (fun k => k.code.toNat)) = [1, 2, 3, 4, 5, 6, 7] ∧
  ([Result.sent, .invalidParameter, .busy, .empty, .error, .idle true, .idle false].map (fun r => r.code.toNat)) =
      [0, 1, 2, 0x100, 0x200, 1, 0] ∧
  (∀ v : Byte, (Result.value v).code.toNat = v.toNat) ∧
  (∀ k : ErrorKind, (Notification.error k).code.toNat = 1 + 16 * k.code.toNat) ∧
  (∀ b0 b1 b2 : Byte, ∀ len : BitVec 8, (Notification.frame b0 b1 b2 len).code.toNat =
      2 + 2 ^ 8 * len.toNat + 2 ^ 16 * b0.toNat + 2 ^ 24 * b1.toNat + 2 ^ 32 * b2.toNat) ∧
  (Notification.activity.code.toNat = 3 ∧ Notification.tickRestart.code.toNat = 4 ∧ Notification.tickArm.code.toNat = 5)

/-! ## The step, and what is refused -/

/-- 00_scope.md R8, 30_encoding.md R54: a step runs the event of the first pending word, exactly that one; it refuses a word
that spells no event; and with no word pending the state stays (the model's reading of R8, log entry 2). The last two clauses
say what `withFetchWord` sets up: that event next, after BEGIN where the event needs it (the model's choice, log entry 6). -/
def Obligations.StepRunsTheNextEvent : Prop :=
  ∀ s : State,
    (∀ w rest i, s.pending = w :: rest → decode w = .ok i → step s = exec i { s with pending := rest }) ∧
    (∀ w rest, s.pending = w :: rest → decode w = .error .reservedOpcode → step s = .refused .reservedOpcode) ∧
    (∀ w rest, s.pending = w :: rest → decode w = .error .reservedBit → step s = .refused .reservedBit) ∧
    (s.pending = [] → step s = .next s) ∧
    (∀ i, s.started = true ∨ (∃ p, i = .begin p) → step (s.withFetchWord 64 (encode i).toNat) = exec i s) ∧
    (∀ i, s.started = false → (∀ p, i ≠ .begin p) →
      ∃ t, exec (.begin false) s = .next t ∧ step (s.withFetchWord 64 (encode i).toNat) = exec i t)

/-- 40_init_and_send.md R64 and R65: every event but BEGIN is refused before BEGIN, a second BEGIN is refused, nothing else
is, and no event faults (60_exceptions.md R106). -/
def Obligations.EventsRefusedExactlyOutsideTheirPhase : Prop :=
  ∀ s : State,
    (∀ p, exec (.begin p) s = .refused .beginTwice ↔ s.started = true) ∧
    (∀ i, (∀ p, i ≠ .begin p) → (exec i s = .refused .notStarted ↔ s.started = false)) ∧
    (∀ i, (∃ r, exec i s = .refused r) ∨ ∃ t, exec i s = .next t) ∧
    (∀ i r, exec i s = .refused r → (s.started = true ∧ ∃ p, i = .begin p) ∨ (s.started = false ∧ ∀ p, i ≠ .begin p))

/-! ## BEGIN -/

/-- R63 and 70_reset_and_hazards.md R124: the state after BEGIN, every field of the record. -/
def Obligations.BeginWritesEveryField : Prop :=
  ∀ (p : Bool) (s : State), s.started = false →
    exec (.begin p) s = .next
      { started := true, st := .idle, idle := 0#8, lastTs := 0#32, txBuf := ⟨0#8, 0#8, 0#8, 0#8⟩, txLen := 0#8,
        cursor := 0#8, coll := false, txLevel := .high, rxResp := false, rxErr := false, h := 0#8, respAcc := 0#16,
        cmdAcc := 0#32, pol := p, result := none, outputs := [.tickArm], pending := s.pending, cfg := s.cfg,
        hWrapped := false, draws := s.draws }

/-- 70_reset_and_hazards.md R123: the values before BEGIN are not observable. Two unstarted states that agree on what is not
the block's record are the same to every event. -/
def Obligations.PowerOnValuesUnobservable : Prop :=
  ∀ (i : Instr) (s s' : State), s.started = false → s'.started = false →
    s.pending = s'.pending → s.cfg = s'.cfg → s.draws = s'.draws → exec i s = exec i s'

/-! ## SEND -/

/-- R67: a bit count other than 16, 24 and 25 is rejected in every bus state, and the record stays. -/
def Obligations.SendRejectsOtherLengths : Prop :=
  ∀ (n b0 b1 b2 b3 : Byte) (s : State), s.started = true → n ≠ 16#8 → n ≠ 24#8 → n ≠ 25#8 →
    exec (.send n b0 b1 b2 b3) s =
      .next { s with result := some .invalidParameter, outputs := [.error .invalidParameter] }

/-- R68: a valid bit count outside `IDLE` is rejected as busy, and the record stays. -/
def Obligations.SendRejectsWhenBusy : Prop :=
  ∀ (n b0 b1 b2 b3 : Byte) (s : State), s.started = true → (n = 16#8 ∨ n = 24#8 ∨ n = 25#8) → s.st ≠ .idle →
    exec (.send n b0 b1 b2 b3) s = .next { s with result := some .busy, outputs := [.error .busy] }

/-- R69 and R70: an accepted SEND. For 25 bits, byte 3 is `(B2 & 1) << 7` and byte 2 is `(MARKER25 << 7) | (B2 >> 1)` with
`MARKER25 = 1`. `idle` and `txLevel` stay (R66). -/
def Obligations.SendLoadsTheFrame : Prop :=
  ∀ (n b0 b1 b2 b3 : Byte) (s : State), s.started = true → s.st = .idle → (n = 16#8 ∨ n = 24#8 ∨ n = 25#8) →
    exec (.send n b0 b1 b2 b3) s = .next
      { s with
        txBuf := if n = 25#8 then ⟨b0, b1, 0x80#8 ||| (b2 >>> 1), (b2 &&& 1#8) <<< 7⟩ else ⟨b0, b1, b2, b3⟩
        txLen := n, coll := false, h := 0#8, hWrapped := false, rxErr := false, st := .txStart1st
        result := some .sent, outputs := [] }

/-- R70 with 20_memory.md R38, R39: the 25 wire bits are `B0`, `B1`, the marker 1, `B2`, each byte its bit 7 first. -/
def Obligations.RepackedWireBits : Prop :=
  ∀ (b0 b1 b2 b3 : Byte) (buf : TxBuf) (i : Nat), i < 25 →
    (loadFrame 25#8 b0 b1 b2 b3 buf).bit i = some
      (if i < 8 then b0.getLsbD (7 - i) else if i < 16 then b1.getLsbD (15 - i)
       else if i = 16 then true else b2.getLsbD (24 - i))

/-- The source's property S6 (95_test_vectors.md), R70, R85 and R86: a frame sent and read back by a receiver's extraction
gives the payload, for each send length. -/
def Obligations.SendThenExtractIsIdentity : Prop :=
  ∀ (n b0 b1 b2 b3 : Byte) (buf : TxBuf) (bits : List Bool), (n = 16#8 ∨ n = 24#8 ∨ n = 25#8) →
    bits.length = n.toNat → wireBits (loadFrame n b0 b1 b2 b3 buf) bits →
    extractFrame n (BitVec.ofNat 32 (bitsValue bits)) = some (b0, b1, if n = 16#8 then 0#8 else b2)

/-! ## TICK -/

/-- R72 and R79: every TICK counts, saturating at 255; only the end of the stop condition leaves 0 instead. -/
def Obligations.TickCountsQuietTicks : Prop :=
  ∀ (l : Level) (s t : State), exec (.tick l) s = .next t →
    t.idle.toNat = (if s.st = .txStop ∧ 4 ≤ min 255 (s.idle.toNat + 1) then 0 else min 255 (s.idle.toNat + 1))

/-- R73: a stuck-low line, whichever of the five states finds it. `h`, `rxErr` and the accumulators stay. -/
def Obligations.PulldownForcesShort : Prop :=
  ∀ (l : Level) (s : State), s.started = true → StuckLow l s →
    exec (.tick l) s = .next { ticked s with txLevel := .high, st := .short, outputs := [.error .pulldown] }

/-- R74: the settling time. -/
def Obligations.StartBitWaitsForSettling : Prop :=
  ∀ (l : Level) (s : State), s.started = true → s.st = .txStart1st →
    exec (.tick l) s = .next
      (if 26 ≤ (satInc8 s.idle).toNat then { ticked s with txLevel := .low, st := .txStart2nd } else ticked s)

/-- R75: the second half of the start bit. -/
def Obligations.StartBitSecondHalf : Prop :=
  ∀ (l : Level) (s : State), s.started = true → s.st = .txStart2nd →
    exec (.tick l) s = .next { ticked s with txLevel := .high, cursor := 0#8, st := .txBit1st }

/-- R76 and 20_memory.md R39: the first half of data bit `cursor`, which is bit `7 - cursor mod 8` of byte `cursor div 8`. -/
def Obligations.DataBitFirstHalf : Prop :=
  ∀ (l : Level) (s : State) (byte : Byte), s.started = true → s.st = .txBit1st → s.cursor.toNat < s.txLen.toNat →
    [s.txBuf.b0, s.txBuf.b1, s.txBuf.b2, s.txBuf.b3][s.cursor.toNat / 8]? = some byte →
    exec (.tick l) s = .next
      { ticked s with
        txLevel := if byte.getLsbD (7 - s.cursor.toNat % 8) = true then .low else .high
        st := .txBit2nd }

/-- R77: the second half of a data bit is the opposite level; the cursor advances. -/
def Obligations.DataBitSecondHalf : Prop :=
  ∀ (l : Level) (s : State), s.started = true → s.st = .txBit2nd →
    exec (.tick l) s = .next
      { ticked s with
        txLevel := if s.txLevel = .low then .high else .low
        cursor := s.cursor + 1#8
        st := if (s.cursor + 1#8).toNat < s.txLen.toNat then .txBit1st else .txStop1st }

/-- R78 and R79: the stop condition is driven, held, and ends with `idle` at 0. -/
def Obligations.StopConditionThenResponseWindow : Prop :=
  ∀ (l : Level) (s : State), s.started = true →
    (s.st = .txStop1st → exec (.tick l) s = .next { ticked s with txLevel := .high, st := .txStop }) ∧
    (s.st = .txStop → exec (.tick l) s = .next
      (if 4 ≤ (satInc8 s.idle).toNat then { ticked s with idle := 0#8, st := .waitRx } else ticked s))

/-- R80: the response window, where the pulldown detector does not act first. -/
def Obligations.ResponseWindowTimesOut : Prop :=
  ∀ (l : Level) (s : State), s.started = true → s.st = .waitRx → ¬ StuckLow l s →
    exec (.tick l) s = .next (if 22 < (satInc8 s.idle).toNat then { ticked s with st := .idle } else ticked s)

/-- R81: the drain, where the pulldown detector does not act first. Nothing is delivered. -/
def Obligations.DrainTimesOut : Prop :=
  ∀ (l : Level) (s : State), s.started = true → s.st = .rxStop → ¬ StuckLow l s →
    exec (.tick l) s = .next (if 4 < (satInc8 s.idle).toNat then { ticked s with st := .idle } else ticked s)

/-- R82: the frame boundary detector, the same in `RX_START` and `RX_BIT`; delivery needs `h > 16` (90_conflicts.md C1). Here
for the frames whose bytes the rules give (R84, R85); the others are `FreeValuesWhereNoRuleGivesOne`. -/
def Obligations.FrameBoundaryDelivers : Prop :=
  ∀ (l : Level) (s : State), s.started = true → (s.st = .rxStart ∨ s.st = .rxBit) → ¬ StuckLow l s →
    ((satInc8 s.idle).toNat ≤ 3 → exec (.tick l) s = .next (ticked s)) ∧
    (3 < (satInc8 s.idle).toNat → s.h.toNat ≤ 16 → exec (.tick l) s = .next { ticked s with st := .idle }) ∧
    (∀ b0 b1 b2, 3 < (satInc8 s.idle).toNat → 16 < s.h.toNat → s.frameBytes = some (b0, b1, b2) →
      exec (.tick l) s = .next
        { ticked s with st := .idle, outputs := [.frame b0 b1 b2 (BitVec.ofNat 8 (s.h.toNat / 2))] })

/-- R83: TICK in `IDLE` and `SHORT` only counts, but for the pulldown in `IDLE`, and no event but a `HIGH` EDGE leaves `SHORT`
(R98). -/
def Obligations.TickInIdleAndShortOnlyCounts : Prop :=
  (∀ (l : Level) (s : State), s.started = true → s.st = .short → exec (.tick l) s = .next (ticked s)) ∧
  (∀ (l : Level) (s : State), s.started = true → s.st = .idle → ¬ StuckLow l s → exec (.tick l) s = .next (ticked s)) ∧
  (∀ (l : Level) (s : State), s.started = true → s.st = .idle → StuckLow l s →
    exec (.tick l) s = .next { ticked s with txLevel := .high, st := .short, outputs := [.error .pulldown] }) ∧
  (∀ (i : Instr) (s t : State), s.started = true → s.st = .short → exec i s = .next t → t.st ≠ .short →
    ∃ ts, i = .edge .high ts)

/-- R84, R85 and R86: the bytes of a delivered frame, by its length. -/
def Obligations.ExtractionTable : Prop :=
  ∀ s : State, s.hWrapped = false →
    (s.h.toNat / 2 = 8 → s.frameBytes = some (s.cmdAcc.setWidth 8, 0#8, 0#8)) ∧
    (s.h.toNat / 2 = 16 → s.frameBytes = some ((s.cmdAcc >>> 8).setWidth 8, s.cmdAcc.setWidth 8, 0#8)) ∧
    (s.h.toNat / 2 = 24 → s.frameBytes =
      some ((s.cmdAcc >>> 16).setWidth 8, (s.cmdAcc >>> 8).setWidth 8, s.cmdAcc.setWidth 8)) ∧
    (s.h.toNat / 2 = 25 → s.frameBytes =
      some ((s.cmdAcc >>> 17).setWidth 8, (s.cmdAcc >>> 9).setWidth 8, s.cmdAcc.setWidth 8))

/-- R87 and R14: a frame of another length, or after `h` has wrapped, is still delivered with its length, its three bytes
free (the model's form of a draw, log entries 8 and 9); and a data bit that 20_memory.md R39 does not define is driven as a
free bit (log entry 10). The statement holds whatever `Config.freeByte` is. -/
def Obligations.FreeValuesWhereNoRuleGivesOne : Prop :=
  ∀ (l : Level) (s : State), s.started = true → ¬ StuckLow l s →
    ((s.st = .rxStart ∨ s.st = .rxBit) → 3 < (satInc8 s.idle).toNat → 16 < s.h.toNat →
      (s.hWrapped = true ∨ s.h.toNat / 2 ∉ [8, 16, 24, 25]) →
      exec (.tick l) s = .next
        { ticked s with
          st := .idle
          outputs := [.frame (Config.freeByte s.draws) (Config.freeByte (s.draws + 1)) (Config.freeByte (s.draws + 2))
            (BitVec.ofNat 8 (s.h.toNat / 2))]
          draws := s.draws + 3 }) ∧
    (s.st = .txBit1st → (s.txLen.toNat ≤ s.cursor.toNat ∨ 32 ≤ s.cursor.toNat) →
      exec (.tick l) s = .next
        { ticked s with
          txLevel := if (Config.freeByte s.draws).getLsbD 0 = true then .low else .high
          st := .txBit2nd
          draws := s.draws + 1 })

/-- R71: TICK never writes these fields, and emits at most one notification. -/
def Obligations.TickFrame : Prop :=
  ∀ (l : Level) (s t : State), exec (.tick l) s = .next t →
    t.started = s.started ∧ t.lastTs = s.lastTs ∧ t.txBuf = s.txBuf ∧ t.txLen = s.txLen ∧ t.coll = s.coll ∧
    t.rxResp = s.rxResp ∧ t.rxErr = s.rxErr ∧ t.h = s.h ∧ t.respAcc = s.respAcc ∧ t.cmdAcc = s.cmdAcc ∧ t.pol = s.pol ∧
    t.result = none ∧ t.pending = s.pending ∧ t.cfg = s.cfg ∧ t.hWrapped = s.hWrapped ∧ t.outputs.length ≤ 1 ∧
    (t.cursor ≠ s.cursor → s.st = .txStart2nd ∨ s.st = .txBit2nd) ∧
    (t.txLevel ≠ s.txLevel → isTx s.st = true ∨ StuckLow l s)

/-- R88: the transmitted waveform. From the TICK at which the settling time is over, an undisturbed run (TICKs of any levels,
and self-feedback EDGEs between them) drives the start bit, the data bits and the stop level, one half-bit a TICK; a run of
TICKs alone is undisturbed. -/
def Obligations.TransmittedWaveform : Prop :=
  ∀ (l0 : Level) (rest : List Instr) (ls : List Level) (bits : List Bool) (s : State),
    s.started = true → s.st = .txStart1st → 26 ≤ (satInc8 s.idle).toNat →
    bits ≠ [] → bits.length = s.txLen.toNat → wireBits s.txBuf bits →
    (tickLevels (.tick l0 :: rest) s = some ls → ls.length = 2 * bits.length + 3 → ls = waveform bits) ∧
    (∀ levels : List Level, levels.length = 2 * bits.length + 2 →
      tickLevels (.tick l0 :: levels.map .tick) s = some (waveform bits))

/-! ## EDGE -/

/-- R91: a collision. The line is not driven, and the frame's buffer, length and cursor stay. -/
def Obligations.CollisionAbortsTheFrame : Prop :=
  ∀ (l : Level) (ts : BitVec 32) (s : State), s.started = true → isTx s.st = true → l ≠ s.txLevel →
    exec (.edge l ts) s = .next
      { edged ts s with
        coll := true, st := .idle, outputs := [.error .collision, .tickRestart] ++ activityOf l }

/-- R92: self-feedback is ignored. -/
def Obligations.SelfFeedbackIgnored : Prop :=
  ∀ (l : Level) (ts : BitVec 32) (s : State), s.started = true → isTx s.st = true → l = s.txLevel →
    exec (.edge l ts) s = .next (edged ts s)

/-- R93: the first edge of the response window. After a `HIGH` one READ_RESPONSE returns EMPTY, in the states that meet the
invariant. -/
def Obligations.ResponseWindowEdge : Prop :=
  ∀ (ts : BitVec 32) (s : State), s.started = true → s.st = .waitRx →
    exec (.edge .low ts) s = .next { edged ts s with st := .rxStart, rxResp := true, outputs := [.tickRestart] } ∧
    exec (.edge .high ts) s = .next { edged ts s with st := .idle, outputs := [.error .cannotBeHigh, .activity] } ∧
    (s.Inv → ∃ t u, exec (.edge .high ts) s = .next t ∧ exec .readResponse t = .next u ∧ u.result = some .empty)

/-- R94: a `LOW` edge in `IDLE` starts unsolicited capture. -/
def Obligations.UnsolicitedCaptureStarts : Prop :=
  ∀ (ts : BitVec 32) (s : State), s.started = true → s.st = .idle →
    exec (.edge .low ts) s = .next { edged ts s with st := .rxStart, rxResp := false } ∧
    exec (.edge .high ts) s = .next { edged ts s with outputs := [.activity] }

/-- R95: the start bit, valid on a `HIGH` edge inside the half window (bounds included), else an error. -/
def Obligations.StartBitValidated : Prop :=
  ∀ (l : Level) (ts : BitVec 32) (s : State), s.started = true → s.st = .rxStart →
    exec (.edge l ts) s = .next
      (if l = .high ∧ s.cfg.halfMinUs ≤ (ts - s.lastTs).toNat ∧ (ts - s.lastTs).toNat ≤ s.cfg.halfMaxUs then
        { edged ts s with
          st := .rxBit, h := 0#8, hWrapped := false, respAcc := 0#16, cmdAcc := 0#32, rxErr := false
          outputs := [.activity] }
      else
        { edged ts s with st := .rxStop, rxErr := true, outputs := [.error .invalidStartBit] ++ activityOf l })

/-- R96 (1) and R100: a half-bit edge shifts at an odd count and adds 1; `h >= 16` ends a response. -/
def Obligations.DecoderHalfBitEdge : Prop :=
  ∀ (l : Level) (ts : BitVec 32) (s : State), s.started = true → s.st = .rxBit → classify s.cfg (ts - s.lastTs) = .half →
    exec (.edge l ts) s = .next
      { edged ts s with
        respAcc := if s.h.toNat % 2 = 1 ∧ s.rxResp = true then s.respAcc <<< 1 ||| (bitOfLevel l).setWidth 16 else s.respAcc
        cmdAcc := if s.h.toNat % 2 = 1 ∧ s.rxResp = false then s.cmdAcc <<< 1 ||| (bitOfLevel l).setWidth 32 else s.cmdAcc
        h := s.h + 1#8
        hWrapped := s.hWrapped || decide (256 ≤ s.h.toNat + 1)
        st := if s.rxResp = true ∧ 16 ≤ (s.h + 1#8).toNat then .rxStop else .rxBit
        outputs := activityOf l }

/-- R96 (2) and R100: a full-bit edge shifts at every count and adds 2; `h >= 16` ends a response. -/
def Obligations.DecoderFullBitEdge : Prop :=
  ∀ (l : Level) (ts : BitVec 32) (s : State), s.started = true → s.st = .rxBit → classify s.cfg (ts - s.lastTs) = .full →
    exec (.edge l ts) s = .next
      { edged ts s with
        respAcc := if s.rxResp = true then s.respAcc <<< 1 ||| (bitOfLevel l).setWidth 16 else s.respAcc
        cmdAcc := if s.rxResp = true then s.cmdAcc else s.cmdAcc <<< 1 ||| (bitOfLevel l).setWidth 32
        h := s.h + 2#8
        hWrapped := s.hWrapped || decide (256 ≤ s.h.toNat + 2)
        st := if s.rxResp = true ∧ 16 ≤ (s.h + 2#8).toNat then .rxStop else .rxBit
        outputs := activityOf l }

/-- R96 (3): an edge in neither window is a timing error; `h` and the accumulators stay. -/
def Obligations.DecoderTimingFault : Prop :=
  ∀ (l : Level) (ts : BitVec 32) (s : State), s.started = true → s.st = .rxBit →
    classify s.cfg (ts - s.lastTs) = .neither →
    exec (.edge l ts) s = .next
      { edged ts s with st := .rxStop, rxErr := true, outputs := [.error .timing] ++ activityOf l }

/-- R97 and R98: edges in the drain and in `SHORT`, which no TICK ends (R83). -/
def Obligations.DrainAndShortEdges : Prop :=
  ∀ (l : Level) (ts : BitVec 32) (s : State), s.started = true →
    (s.st = .rxStop → exec (.edge l ts) s = .next { edged ts s with outputs := activityOf l }) ∧
    (s.st = .short → exec (.edge l ts) s = .next
      { edged ts s with st := if l = .high then .idle else .short, outputs := activityOf l }) ∧
    (s.st = .short → exec (.tick l) s = .next (ticked s))

/-- R99: with the constraints of 00_scope.md R11, every distance is in exactly one bucket. -/
def Obligations.EveryDistanceInOneBucket : Prop :=
  ∀ (c : Config) (d : BitVec 32), c.Ok →
    (classify c d = .half ↔ c.halfMinUs ≤ d.toNat ∧ d.toNat ≤ c.halfMaxUs) ∧
    (classify c d = .full ↔ c.fullMinUs ≤ d.toNat ∧ d.toNat ≤ c.fullMaxUs) ∧
    (classify c d = .neither ↔
      d.toNat < c.halfMinUs ∨ (c.halfMaxUs < d.toNat ∧ d.toNat < c.fullMinUs) ∨ c.fullMaxUs < d.toNat)

/-- R89 and R90: every EDGE notes itself, and never writes these fields; the accumulator that is not active changes only at a
valid start bit (10_state.md R23). -/
def Obligations.EdgeFrame : Prop :=
  ∀ (l : Level) (ts : BitVec 32) (s t : State), exec (.edge l ts) s = .next t →
    t.idle = 0#8 ∧ t.lastTs = ts ∧
    t.started = s.started ∧ t.txBuf = s.txBuf ∧ t.txLen = s.txLen ∧ t.cursor = s.cursor ∧ t.txLevel = s.txLevel ∧
    t.pol = s.pol ∧ t.result = none ∧ t.pending = s.pending ∧ t.cfg = s.cfg ∧ t.draws = s.draws ∧
    (t.coll ≠ s.coll → isTx s.st = true) ∧ (t.rxResp ≠ s.rxResp → s.st = .idle ∨ s.st = .waitRx) ∧
    (t.rxErr ≠ s.rxErr → s.st = .rxStart ∨ s.st = .rxBit) ∧
    (t.h ≠ s.h ∨ t.hWrapped ≠ s.hWrapped → s.st = .rxStart ∨ s.st = .rxBit) ∧
    (t.respAcc ≠ s.respAcc → s.st = .rxStart ∨ (s.st = .rxBit ∧ s.rxResp = true)) ∧
    (t.cmdAcc ≠ s.cmdAcc → s.st = .rxStart ∨ (s.st = .rxBit ∧ s.rxResp = false))

/-- R101: `Activity` comes from exactly the `HIGH` edges that are not self-feedback, from no other event, and last. -/
def Obligations.ActivityExactlyOnUnexplainedHigh : Prop :=
  ∀ (i : Instr) (s t : State), exec i s = .next t →
    (Notification.activity ∈ t.outputs ↔ ∃ ts, i = .edge .high ts ∧ ¬ (isTx s.st = true ∧ s.txLevel = .high)) ∧
    (Notification.activity ∈ t.outputs → t.outputs.getLast? = some .activity ∧ t.outputs.count .activity = 1)

/-- 10_state.md R29, its step: where `h` does not wrap, an EDGE of the decoder that is no timing error either shifts one bit
into the active accumulator and raises `h div 2` by one, or shifts nothing and keeps `h div 2`. -/
def Obligations.ShiftsCountedByHalfBits : Prop :=
  ∀ (l : Level) (ts : BitVec 32) (s t : State), s.started = true → s.st = .rxBit →
    classify s.cfg (ts - s.lastTs) ≠ .neither →
    s.h.toNat + (if classify s.cfg (ts - s.lastTs) = .half then 1 else 2) < 256 → exec (.edge l ts) s = .next t →
    let before := if s.rxResp then s.respAcc.toNat else s.cmdAcc.toNat
    let after := if s.rxResp then t.respAcc.toNat else t.cmdAcc.toNat
    let room := if s.rxResp then 2 ^ 16 else 2 ^ 32
    (t.h.toNat / 2 = s.h.toNat / 2 + 1 ∧ after = (2 * before + (bitOfLevel l).toNat) % room) ∨
    (t.h.toNat / 2 = s.h.toNat / 2 ∧ after = before)

/-- R102: the decoder, in both modes. After a valid start bit the edges of a frame shift its bits into the active accumulator
in order, and leave two half-bits a bit, and one for a stop edge. A response ends with its eighth bit, in `RX_STOP` with
`h = 16`. Between the edges there may be TICKs of either level that leave `idle` at most 3, SENDs and IS_IDLEs. -/
def Obligations.DecoderRecoversTheFrame : Prop :=
  ∀ (bits : List Bool) (es : List Arrival) (s : State),
    s.started = true → s.st = .rxBit → s.h = 0#8 →
    timedAs s.cfg es (frameEdges .high bits) → gapsQuiet s.idle.toNat es = true →
    (s.rxResp = false → s.cmdAcc = 0#32 → bits.length ≤ 127 →
      ∃ t, execAll (arrivals s.lastTs es) s = .next t ∧ t.st = .rxBit ∧ t.rxErr = s.rxErr ∧ t.hWrapped = s.hWrapped ∧
        t.cmdAcc = BitVec.ofNat 32 (bitsValue bits) ∧ t.h.toNat = frameHalfBits bits ∧ t.h.toNat / 2 = bits.length) ∧
    (s.rxResp = true → s.respAcc = 0#16 →
      ∃ t, execAll (arrivals s.lastTs es) s = .next t ∧ t.st = (if 8 ≤ bits.length then .rxStop else .rxBit) ∧
        t.rxErr = s.rxErr ∧ t.hWrapped = s.hWrapped ∧ t.respAcc = BitVec.ofNat 16 (bitsValue (bits.take 8)) ∧
        t.h.toNat = min 16 (frameHalfBits bits))

/-- R94, R95, R96, R82 and R85 together (the source's property S7): a command frame that starts in `IDLE` and is followed by
three TICKs and a `HIGH` one is delivered with its bits and its length. The first arrival is the end of its start bit. Between
the edges there may be TICKs of either level that leave `idle` at most 3, SENDs and IS_IDLEs. -/
def Obligations.SnoopedCommandDelivered : Prop :=
  ∀ (bits : List Bool) (es : List Arrival) (t0 : BitVec 32) (late : List Level) (b0 b1 b2 : Byte) (s : State),
    s.started = true → s.st = .idle →
    timedAs s.cfg es ((.half, .high) :: frameEdges .high bits) → gapsQuiet 0 es = true → late.length = 3 →
    bits.length ≤ 127 → 16 < frameHalfBits bits →
    extractFrame (BitVec.ofNat 8 bits.length) (BitVec.ofNat 32 (bitsValue bits)) = some (b0, b1, b2) →
    ∃ t, execAll (.edge .low t0 :: arrivals t0 es ++ late.map .tick ++ [.tick .high]) s = .next t ∧
      t.st = .idle ∧ t.outputs = [.frame b0 b1 b2 (BitVec.ofNat 8 bits.length)]

/-- R93, R95, R96, R97 and R103 together (the source's property S3): an 8-bit response is returned by the first
READ_RESPONSE after it, however many TICKs later, and the second returns EMPTY. The first arrival is the end of its start bit.
Between the edges there may be TICKs of either level that leave `idle` at most 3, SENDs and IS_IDLEs. -/
def Obligations.ResponseReadExactlyOnce : Prop :=
  ∀ (bits : List Bool) (es : List Arrival) (t0 : BitVec 32) (late : List Level) (s : State),
    s.started = true → s.st = .waitRx →
    timedAs s.cfg es ((.half, .high) :: frameEdges .high bits) → gapsQuiet 0 es = true → bits.length = 8 →
    ∃ t u, execAll (.edge .low t0 :: arrivals t0 es ++ late.map .tick ++ [.readResponse]) s = .next t ∧
      (late.length ≤ 3 → t.st = .rxStop) ∧ t.result = some (.value (BitVec.ofNat 8 (bitsValue bits))) ∧
      exec .readResponse t = .next u ∧ u.result = some .empty

/-- 70_reset_and_hazards.md R129: a frame left in the accumulator is delivered again by a `LOW` EDGE that no valid start bit
follows (90_conflicts.md C7). -/
def Obligations.OldFrameDeliveredAgain : Prop :=
  ∀ (ts : BitVec 32) (b0 b1 b2 : Byte) (s : State),
    s.started = true → s.st = .idle → 16 < s.h.toNat → s.frameBytes = some (b0, b1, b2) →
    ∃ t, execAll (.edge .low ts :: highTicks 4) s = .next t ∧ t.st = .idle ∧
      t.outputs = [.frame b0 b1 b2 (BitVec.ofNat 8 (s.h.toNat / 2))]

/-! ## READ_RESPONSE and IS_IDLE -/

/-- R103: the result and the cleared latch, in every state. -/
def Obligations.ReadResponseReturnsAndClears : Prop :=
  ∀ s : State, s.started = true →
    exec .readResponse s = .next
      { s with
        h := 0#8, hWrapped := false, rxErr := false, outputs := []
        result := some
          (if s.rxErr = true then .error
           else if s.h.toNat = 16 then .value (s.respAcc.setWidth 8)
           else if s.h.toNat = 0 then .empty else .error) }

/-- 20_memory.md R44: a second READ_RESPONSE with no reception between the two (no EDGE met in `RX_START` or `RX_BIT`) returns
EMPTY, whatever other events run between; and IS_IDLE writes nothing of the record and is idempotent. -/
def Obligations.SecondReadWithoutReceptionIsEmpty : Prop :=
  (∀ (is : List Instr) (s t u v : State), exec .readResponse s = .next t → NoReception is t →
    execAll is t = .next u → exec .readResponse u = .next v → v.result = some .empty) ∧
  (∀ s t : State, exec .isIdle s = .next t →
    { t with result := s.result, outputs := s.outputs } = s ∧ exec .isIdle t = .next t)

/-- R104: IS_IDLE returns whether the bus state is `IDLE` and writes nothing. -/
def Obligations.IsIdleAnswersTheBusState : Prop :=
  ∀ s : State, s.started = true →
    exec .isIdle s = .next { s with result := some (.idle (if s.st = .idle then true else false)), outputs := [] }

/-! ## The machine as a whole -/

/-- The invariant holds at reset. The power-on values of the record and the reference windows in it are the model's choice (log
entry 5, DESIGN CHOICE, and log entry 7, PRESUMED). -/
def Obligations.ResetMeetsInvariant : Prop := State.reset.Inv

/-- Every step keeps the invariant, from every state that meets it. -/
def Obligations.StepKeepsInvariant : Prop := ∀ s t : State, s.Inv → step s = .next t → t.Inv

/-- 60_exceptions.md R108: every state but `SHORT` comes back to `IDLE` in bounded time, row by row, and then after any
undisturbed run (its only EDGEs self-feedback) that 105 `HIGH` TICKs follow. -/
def Obligations.QuietTicksReturnToIdle : Prop :=
  ∀ s : State, s.Inv → s.started = true →
    (∀ levels : List Level, s.st = .txStart1st → levels.length = 26 →
      ∃ t, execAll (levels.map .tick) s = .next t ∧ t.st ≠ .txStart1st ∧ isTx t.st = true) ∧
    (∀ is : List Instr, s.st = .txStart2nd → Undisturbed is s → tickCount is = 2 * s.txLen.toNat + 2 →
      ∃ t, execAll is s = .next t ∧ t.st = .txStop) ∧
    (∀ levels : List Level, s.st = .txStop → levels.length = 4 →
      ∃ t, execAll (levels.map .tick) s = .next t ∧ t.st = .waitRx) ∧
    (s.st = .waitRx → ∃ t, execAll (highTicks 23) s = .next t ∧ t.st = .idle) ∧
    (s.st = .rxStart ∨ s.st = .rxBit → ∃ t, execAll (highTicks 4) s = .next t ∧ t.st = .idle) ∧
    (s.st = .rxStop → ∃ t, execAll (highTicks 5) s = .next t ∧ t.st = .idle) ∧
    (∀ is : List Instr, s.st ≠ .short → Undisturbed is s →
      ∃ t, execAll (is ++ highTicks 105) s = .next t ∧ t.st = .idle)

/-- 60_exceptions.md R111: at most one `Error` an event; the order is `Error`, `TickRestart`, `Frame`, `Activity`; not both an
`Error` and a `Frame`; and BEGIN alone emits `TickArm`. -/
def Obligations.NotificationOrder : Prop :=
  ∀ (i : Instr) (s t : State), exec i s = .next t →
    if (∃ p, i = .begin p) then t.outputs = [.tickArm]
    else ∃ e r f a : List Notification, t.outputs = e ++ r ++ f ++ a ∧
      (e = [] ∨ ∃ k, e = [.error k]) ∧ (r = [] ∨ r = [.tickRestart]) ∧
      (f = [] ∨ ∃ b0 b1 b2 n, f = [.frame b0 b1 b2 n]) ∧ (a = [] ∨ a = [.activity]) ∧ (e = [] ∨ f = [])

/-- 60_exceptions.md R107, the whole table: the code of each error kind, the events and states that raise it and no others do
(so in `SHORT` the pulldown error is not raised again), and the state it leaves. -/
def Obligations.ErrorsRaisedExactlyByTheirCauses : Prop :=
  ([ErrorKind.invalidParameter, .busy, .pulldown, .collision, .cannotBeHigh, .invalidStartBit, .timing].map
      (fun k => k.code.toNat)) = [1, 2, 3, 4, 5, 6, 7] ∧
  ∀ (i : Instr) (s t : State) (k : ErrorKind), exec i s = .next t →
    (Notification.error k ∈ t.outputs ↔ RaisedWhen i s k) ∧
    (Notification.error k ∈ t.outputs → StateAfterError s t k)

/-- 10_state.md R22 and R34: no event reads the collision flag or the polarity, so neither can show in anything else. -/
def Obligations.CollisionFlagAndPolarityNeverRead : Prop :=
  ∀ (i : Instr) (s : State) (c p : Bool),
    mapNext (fun t => { t with coll := false, pol := false }) (exec i { s with coll := c, pol := p }) =
      mapNext (fun t => { t with coll := false, pol := false }) (exec i s)

/-- 10_state.md R26: values of `idle` from 27 up are indistinguishable, so any saturation value of 27 or more does. -/
def Obligations.IdleFrom27Indistinguishable : Prop :=
  ∀ (i : Instr) (s t : State) (k : BitVec 8), 27 ≤ s.idle.toNat → 27 ≤ k.toNat → exec i s = .next t →
    ∃ u, exec i { s with idle := k } = .next u ∧ { u with idle := t.idle } = t ∧
      (u.idle = t.idle ∨ (27 ≤ u.idle.toNat ∧ 27 ≤ t.idle.toNat))

/-- 10_state.md R27: outside `RX_START` and `RX_BIT` the last timestamp does not matter, an EDGE forgets it, and those two
states are entered only by an EDGE that has written it. So its value at reset is never observable. -/
def Obligations.LastTimestampUnobservableUntilWritten : Prop :=
  (∀ (i : Instr) (s : State) (x : BitVec 32), s.st ≠ .rxStart → s.st ≠ .rxBit →
    mapNext (fun t => { t with lastTs := 0#32 }) (exec i { s with lastTs := x }) =
      mapNext (fun t => { t with lastTs := 0#32 }) (exec i s) ∧
    ∀ l ts, i = .edge l ts → exec i { s with lastTs := x } = exec i s) ∧
  (∀ (i : Instr) (s t : State), exec i s = .next t → (t.st = .rxStart ∨ t.st = .rxBit) →
    (s.st = .rxStart ∨ s.st = .rxBit) ∨ ∃ l, i = .edge l t.lastTs)

/-- 60_exceptions.md R112, R114, R118 (out of the block, its side of the interface): a missing callback drops its own
notifications only, the tick source gets its two requests, and with the reference `PIN_MAP` the pin is `level XOR pol`. -/
def Obligations.PlatformReceivesItsShare : Prop :=
  ∀ s : State,
    (∀ n, n ∈ s.delivered ↔ n ∈ s.outputs ∧
      ((∃ k, n = .error k) ∧ s.cfg.handlers.error = true ∨ (∃ b0 b1 b2 len, n = .frame b0 b1 b2 len) ∧
        s.cfg.handlers.frame = true ∨ n = .activity ∧ s.cfg.handlers.activity = true)) ∧
    List.Sublist s.delivered s.outputs ∧
    (∀ n, n ∈ s.tickRequests ↔ n ∈ s.outputs ∧ (n = .tickRestart ∨ n = .tickArm)) ∧
    (s.cfg.pinMap = PinMap.reference →
      (bitOfLevel s.txPin = bitOfLevel s.txLevel ^^^ BitVec.ofBool s.pol) ∧
      ∀ pin, bitOfLevel (s.rxLevel pin) = bitOfLevel pin ^^^ BitVec.ofBool s.pol)
end

