-- ==== Sys2Proof/Laws/Encode.lean ====
section
/-! SUPPORT. The encoder bit by bit: where each field of an EDGE word and of a SEND word stands (30_encoding.md R50). -/

namespace Sys2Proof

/-- Bit `i` of an EDGE word. -/
theorem encode_edge_getLsbD (l : Level) (t : BitVec 32) (i : Nat) :
    (encode (.edge l t)).getLsbD i =
      if i < 4 then (3#4).getLsbD i else if i = 4 then (bitOfLevel l).getLsbD 0 else if i < 32 then false
      else t.getLsbD (i - 32) := by
  show BitVec.getLsbD (w := 32 + 27 + 1 + 4) (t ++ 0#27 ++ bitOfLevel l ++ 3#4) i = _
  simp only [BitVec.getLsbD_append, BitVec.getLsbD_zero]
  grind

/-- Bit `i` of a SEND word. -/
theorem encode_send_getLsbD (n b0 b1 b2 b3 : Byte) (i : Nat) :
    (encode (.send n b0 b1 b2 b3)).getLsbD i =
      if i < 4 then (4#4).getLsbD i else if i < 8 then false
      else if i < 16 then n.getLsbD (i - 8) else if i < 24 then b0.getLsbD (i - 16)
      else if i < 32 then b1.getLsbD (i - 24) else if i < 40 then b2.getLsbD (i - 32)
      else b3.getLsbD (i - 40) := by
  show BitVec.getLsbD (w := 16 + 8 + 8 + 8 + 8 + 8 + 4 + 4) (0#16 ++ b3 ++ b2 ++ b1 ++ b0 ++ n ++ 0#4 ++ 4#4) i = _
  simp only [BitVec.getLsbD_append, BitVec.getLsbD_zero]
  grind

/-- A word's opcode is known from its four lowest bits. -/
theorem opcodeOf_eq_of_bits {w : EventWord} {op : BitVec 4} (h : ∀ i < 4, w.getLsbD i = op.getLsbD i) :
    opcodeOf w = op := by
  apply BitVec.eq_of_getLsbD_eq
  intro i hi
  rw [opcodeOf, BitVec.getLsbD_extractLsb', Nat.zero_add, h i hi]
  simp [hi]

theorem opcodeOf_encode_edge (l : Level) (t : BitVec 32) : opcodeOf (encode (.edge l t)) = 3#4 :=
  opcodeOf_eq_of_bits fun i hi => by rw [encode_edge_getLsbD, if_pos hi]

theorem opcodeOf_encode_send (n b0 b1 b2 b3 : Byte) : opcodeOf (encode (.send n b0 b1 b2 b3)) = 4#4 :=
  opcodeOf_eq_of_bits fun i hi => by rw [encode_send_getLsbD, if_pos hi]

theorem encode_edge_reserved (l : Level) (t : BitVec 32) : encode (.edge l t) &&& 0x00000000FFFFFFE0#64 = 0#64 := by
  apply BitVec.eq_of_getLsbD_eq
  intro i hi
  rw [BitVec.getLsbD_and, encode_edge_getLsbD, BitVec.getLsbD_zero]
  interval_cases i <;> simp

theorem encode_send_reserved (n b0 b1 b2 b3 : Byte) :
    encode (.send n b0 b1 b2 b3) &&& 0xFFFF0000000000F0#64 = 0#64 := by
  apply BitVec.eq_of_getLsbD_eq
  intro i hi
  rw [BitVec.getLsbD_and, encode_send_getLsbD, BitVec.getLsbD_zero]
  interval_cases i <;> simp

end Sys2Proof
end

