-- ==== Sys2Proof/Laws/State.lean ====
section
/-! SUPPORT. What each update of the state leaves in each field: one lemma per field per update. -/

namespace Sys2Proof.Machine

open Sys2Proof

/-! ## `startEvent` -/

@[simp] theorem startEvent_started (s : State) : (State.startEvent s).started = s.started := rfl
@[simp] theorem startEvent_st (s : State) : (State.startEvent s).st = s.st := rfl
@[simp] theorem startEvent_idle (s : State) : (State.startEvent s).idle = s.idle := rfl
@[simp] theorem startEvent_lastTs (s : State) : (State.startEvent s).lastTs = s.lastTs := rfl
@[simp] theorem startEvent_txBuf (s : State) : (State.startEvent s).txBuf = s.txBuf := rfl
@[simp] theorem startEvent_txLen (s : State) : (State.startEvent s).txLen = s.txLen := rfl
@[simp] theorem startEvent_cursor (s : State) : (State.startEvent s).cursor = s.cursor := rfl
@[simp] theorem startEvent_coll (s : State) : (State.startEvent s).coll = s.coll := rfl
@[simp] theorem startEvent_txLevel (s : State) : (State.startEvent s).txLevel = s.txLevel := rfl
@[simp] theorem startEvent_rxResp (s : State) : (State.startEvent s).rxResp = s.rxResp := rfl
@[simp] theorem startEvent_rxErr (s : State) : (State.startEvent s).rxErr = s.rxErr := rfl
@[simp] theorem startEvent_h (s : State) : (State.startEvent s).h = s.h := rfl
@[simp] theorem startEvent_respAcc (s : State) : (State.startEvent s).respAcc = s.respAcc := rfl
@[simp] theorem startEvent_cmdAcc (s : State) : (State.startEvent s).cmdAcc = s.cmdAcc := rfl
@[simp] theorem startEvent_pol (s : State) : (State.startEvent s).pol = s.pol := rfl
@[simp] theorem startEvent_result (s : State) : (State.startEvent s).result = none := rfl
@[simp] theorem startEvent_outputs (s : State) : (State.startEvent s).outputs = [] := rfl
@[simp] theorem startEvent_pending (s : State) : (State.startEvent s).pending = s.pending := rfl
@[simp] theorem startEvent_cfg (s : State) : (State.startEvent s).cfg = s.cfg := rfl
@[simp] theorem startEvent_hWrapped (s : State) : (State.startEvent s).hWrapped = s.hWrapped := rfl
@[simp] theorem startEvent_draws (s : State) : (State.startEvent s).draws = s.draws := rfl

/-! ## `emit` -/

@[simp] theorem emit_started (n : Notification) (s : State) : (State.emit n s).started = s.started := rfl
@[simp] theorem emit_st (n : Notification) (s : State) : (State.emit n s).st = s.st := rfl
@[simp] theorem emit_idle (n : Notification) (s : State) : (State.emit n s).idle = s.idle := rfl
@[simp] theorem emit_lastTs (n : Notification) (s : State) : (State.emit n s).lastTs = s.lastTs := rfl
@[simp] theorem emit_txBuf (n : Notification) (s : State) : (State.emit n s).txBuf = s.txBuf := rfl
@[simp] theorem emit_txLen (n : Notification) (s : State) : (State.emit n s).txLen = s.txLen := rfl
@[simp] theorem emit_cursor (n : Notification) (s : State) : (State.emit n s).cursor = s.cursor := rfl
@[simp] theorem emit_coll (n : Notification) (s : State) : (State.emit n s).coll = s.coll := rfl
@[simp] theorem emit_txLevel (n : Notification) (s : State) : (State.emit n s).txLevel = s.txLevel := rfl
@[simp] theorem emit_rxResp (n : Notification) (s : State) : (State.emit n s).rxResp = s.rxResp := rfl
@[simp] theorem emit_rxErr (n : Notification) (s : State) : (State.emit n s).rxErr = s.rxErr := rfl
@[simp] theorem emit_h (n : Notification) (s : State) : (State.emit n s).h = s.h := rfl
@[simp] theorem emit_respAcc (n : Notification) (s : State) : (State.emit n s).respAcc = s.respAcc := rfl
@[simp] theorem emit_cmdAcc (n : Notification) (s : State) : (State.emit n s).cmdAcc = s.cmdAcc := rfl
@[simp] theorem emit_pol (n : Notification) (s : State) : (State.emit n s).pol = s.pol := rfl
@[simp] theorem emit_result (n : Notification) (s : State) : (State.emit n s).result = s.result := rfl
@[simp] theorem emit_outputs (n : Notification) (s : State) : (State.emit n s).outputs = s.outputs ++ [n] := rfl
@[simp] theorem emit_pending (n : Notification) (s : State) : (State.emit n s).pending = s.pending := rfl
@[simp] theorem emit_cfg (n : Notification) (s : State) : (State.emit n s).cfg = s.cfg := rfl
@[simp] theorem emit_hWrapped (n : Notification) (s : State) : (State.emit n s).hWrapped = s.hWrapped := rfl
@[simp] theorem emit_draws (n : Notification) (s : State) : (State.emit n s).draws = s.draws := rfl

/-! ## `raiseError` -/

@[simp] theorem raiseError_started (k : ErrorKind) (s : State) : (State.raiseError k s).started = s.started := rfl
@[simp] theorem raiseError_st (k : ErrorKind) (s : State) : (State.raiseError k s).st = s.st := rfl
@[simp] theorem raiseError_idle (k : ErrorKind) (s : State) : (State.raiseError k s).idle = s.idle := rfl
@[simp] theorem raiseError_lastTs (k : ErrorKind) (s : State) : (State.raiseError k s).lastTs = s.lastTs := rfl
@[simp] theorem raiseError_txBuf (k : ErrorKind) (s : State) : (State.raiseError k s).txBuf = s.txBuf := rfl
@[simp] theorem raiseError_txLen (k : ErrorKind) (s : State) : (State.raiseError k s).txLen = s.txLen := rfl
@[simp] theorem raiseError_cursor (k : ErrorKind) (s : State) : (State.raiseError k s).cursor = s.cursor := rfl
@[simp] theorem raiseError_coll (k : ErrorKind) (s : State) : (State.raiseError k s).coll = s.coll := rfl
@[simp] theorem raiseError_txLevel (k : ErrorKind) (s : State) : (State.raiseError k s).txLevel = s.txLevel := rfl
@[simp] theorem raiseError_rxResp (k : ErrorKind) (s : State) : (State.raiseError k s).rxResp = s.rxResp := rfl
@[simp] theorem raiseError_rxErr (k : ErrorKind) (s : State) : (State.raiseError k s).rxErr = s.rxErr := rfl
@[simp] theorem raiseError_h (k : ErrorKind) (s : State) : (State.raiseError k s).h = s.h := rfl
@[simp] theorem raiseError_respAcc (k : ErrorKind) (s : State) : (State.raiseError k s).respAcc = s.respAcc := rfl
@[simp] theorem raiseError_cmdAcc (k : ErrorKind) (s : State) : (State.raiseError k s).cmdAcc = s.cmdAcc := rfl
@[simp] theorem raiseError_pol (k : ErrorKind) (s : State) : (State.raiseError k s).pol = s.pol := rfl
@[simp] theorem raiseError_result (k : ErrorKind) (s : State) : (State.raiseError k s).result = s.result := rfl
@[simp] theorem raiseError_outputs (k : ErrorKind) (s : State) : (State.raiseError k s).outputs = s.outputs ++ [.error k] := rfl
@[simp] theorem raiseError_pending (k : ErrorKind) (s : State) : (State.raiseError k s).pending = s.pending := rfl
@[simp] theorem raiseError_cfg (k : ErrorKind) (s : State) : (State.raiseError k s).cfg = s.cfg := rfl
@[simp] theorem raiseError_hWrapped (k : ErrorKind) (s : State) : (State.raiseError k s).hWrapped = s.hWrapped := rfl
@[simp] theorem raiseError_draws (k : ErrorKind) (s : State) : (State.raiseError k s).draws = s.draws := rfl

/-! ## `returns` -/

@[simp] theorem returns_started (r : Result) (s : State) : (State.returns r s).started = s.started := rfl
@[simp] theorem returns_st (r : Result) (s : State) : (State.returns r s).st = s.st := rfl
@[simp] theorem returns_idle (r : Result) (s : State) : (State.returns r s).idle = s.idle := rfl
@[simp] theorem returns_lastTs (r : Result) (s : State) : (State.returns r s).lastTs = s.lastTs := rfl
@[simp] theorem returns_txBuf (r : Result) (s : State) : (State.returns r s).txBuf = s.txBuf := rfl
@[simp] theorem returns_txLen (r : Result) (s : State) : (State.returns r s).txLen = s.txLen := rfl
@[simp] theorem returns_cursor (r : Result) (s : State) : (State.returns r s).cursor = s.cursor := rfl
@[simp] theorem returns_coll (r : Result) (s : State) : (State.returns r s).coll = s.coll := rfl
@[simp] theorem returns_txLevel (r : Result) (s : State) : (State.returns r s).txLevel = s.txLevel := rfl
@[simp] theorem returns_rxResp (r : Result) (s : State) : (State.returns r s).rxResp = s.rxResp := rfl
@[simp] theorem returns_rxErr (r : Result) (s : State) : (State.returns r s).rxErr = s.rxErr := rfl
@[simp] theorem returns_h (r : Result) (s : State) : (State.returns r s).h = s.h := rfl
@[simp] theorem returns_respAcc (r : Result) (s : State) : (State.returns r s).respAcc = s.respAcc := rfl
@[simp] theorem returns_cmdAcc (r : Result) (s : State) : (State.returns r s).cmdAcc = s.cmdAcc := rfl
@[simp] theorem returns_pol (r : Result) (s : State) : (State.returns r s).pol = s.pol := rfl
@[simp] theorem returns_result (r : Result) (s : State) : (State.returns r s).result = some r := rfl
@[simp] theorem returns_outputs (r : Result) (s : State) : (State.returns r s).outputs = s.outputs := rfl
@[simp] theorem returns_pending (r : Result) (s : State) : (State.returns r s).pending = s.pending := rfl
@[simp] theorem returns_cfg (r : Result) (s : State) : (State.returns r s).cfg = s.cfg := rfl
@[simp] theorem returns_hWrapped (r : Result) (s : State) : (State.returns r s).hWrapped = s.hWrapped := rfl
@[simp] theorem returns_draws (r : Result) (s : State) : (State.returns r s).draws = s.draws := rfl

/-! ## `drive` -/

@[simp] theorem drive_started (v : Level) (s : State) : (State.drive v s).started = s.started := rfl
@[simp] theorem drive_st (v : Level) (s : State) : (State.drive v s).st = s.st := rfl
@[simp] theorem drive_idle (v : Level) (s : State) : (State.drive v s).idle = s.idle := rfl
@[simp] theorem drive_lastTs (v : Level) (s : State) : (State.drive v s).lastTs = s.lastTs := rfl
@[simp] theorem drive_txBuf (v : Level) (s : State) : (State.drive v s).txBuf = s.txBuf := rfl
@[simp] theorem drive_txLen (v : Level) (s : State) : (State.drive v s).txLen = s.txLen := rfl
@[simp] theorem drive_cursor (v : Level) (s : State) : (State.drive v s).cursor = s.cursor := rfl
@[simp] theorem drive_coll (v : Level) (s : State) : (State.drive v s).coll = s.coll := rfl
@[simp] theorem drive_txLevel (v : Level) (s : State) : (State.drive v s).txLevel = v := rfl
@[simp] theorem drive_rxResp (v : Level) (s : State) : (State.drive v s).rxResp = s.rxResp := rfl
@[simp] theorem drive_rxErr (v : Level) (s : State) : (State.drive v s).rxErr = s.rxErr := rfl
@[simp] theorem drive_h (v : Level) (s : State) : (State.drive v s).h = s.h := rfl
@[simp] theorem drive_respAcc (v : Level) (s : State) : (State.drive v s).respAcc = s.respAcc := rfl
@[simp] theorem drive_cmdAcc (v : Level) (s : State) : (State.drive v s).cmdAcc = s.cmdAcc := rfl
@[simp] theorem drive_pol (v : Level) (s : State) : (State.drive v s).pol = s.pol := rfl
@[simp] theorem drive_result (v : Level) (s : State) : (State.drive v s).result = s.result := rfl
@[simp] theorem drive_outputs (v : Level) (s : State) : (State.drive v s).outputs = s.outputs := rfl
@[simp] theorem drive_pending (v : Level) (s : State) : (State.drive v s).pending = s.pending := rfl
@[simp] theorem drive_cfg (v : Level) (s : State) : (State.drive v s).cfg = s.cfg := rfl
@[simp] theorem drive_hWrapped (v : Level) (s : State) : (State.drive v s).hWrapped = s.hWrapped := rfl
@[simp] theorem drive_draws (v : Level) (s : State) : (State.drive v s).draws = s.draws := rfl

/-! ## `goto` -/

@[simp] theorem goto_started (b : BusState) (s : State) : (State.goto b s).started = s.started := rfl
@[simp] theorem goto_st (b : BusState) (s : State) : (State.goto b s).st = b := rfl
@[simp] theorem goto_idle (b : BusState) (s : State) : (State.goto b s).idle = s.idle := rfl
@[simp] theorem goto_lastTs (b : BusState) (s : State) : (State.goto b s).lastTs = s.lastTs := rfl
@[simp] theorem goto_txBuf (b : BusState) (s : State) : (State.goto b s).txBuf = s.txBuf := rfl
@[simp] theorem goto_txLen (b : BusState) (s : State) : (State.goto b s).txLen = s.txLen := rfl
@[simp] theorem goto_cursor (b : BusState) (s : State) : (State.goto b s).cursor = s.cursor := rfl
@[simp] theorem goto_coll (b : BusState) (s : State) : (State.goto b s).coll = s.coll := rfl
@[simp] theorem goto_txLevel (b : BusState) (s : State) : (State.goto b s).txLevel = s.txLevel := rfl
@[simp] theorem goto_rxResp (b : BusState) (s : State) : (State.goto b s).rxResp = s.rxResp := rfl
@[simp] theorem goto_rxErr (b : BusState) (s : State) : (State.goto b s).rxErr = s.rxErr := rfl
@[simp] theorem goto_h (b : BusState) (s : State) : (State.goto b s).h = s.h := rfl
@[simp] theorem goto_respAcc (b : BusState) (s : State) : (State.goto b s).respAcc = s.respAcc := rfl
@[simp] theorem goto_cmdAcc (b : BusState) (s : State) : (State.goto b s).cmdAcc = s.cmdAcc := rfl
@[simp] theorem goto_pol (b : BusState) (s : State) : (State.goto b s).pol = s.pol := rfl
@[simp] theorem goto_result (b : BusState) (s : State) : (State.goto b s).result = s.result := rfl
@[simp] theorem goto_outputs (b : BusState) (s : State) : (State.goto b s).outputs = s.outputs := rfl
@[simp] theorem goto_pending (b : BusState) (s : State) : (State.goto b s).pending = s.pending := rfl
@[simp] theorem goto_cfg (b : BusState) (s : State) : (State.goto b s).cfg = s.cfg := rfl
@[simp] theorem goto_hWrapped (b : BusState) (s : State) : (State.goto b s).hWrapped = s.hWrapped := rfl
@[simp] theorem goto_draws (b : BusState) (s : State) : (State.goto b s).draws = s.draws := rfl

/-! ## `addHalfBits` -/

@[simp] theorem addHalfBits_started (k : BitVec 8) (s : State) : (State.addHalfBits k s).started = s.started := rfl
@[simp] theorem addHalfBits_st (k : BitVec 8) (s : State) : (State.addHalfBits k s).st = s.st := rfl
@[simp] theorem addHalfBits_idle (k : BitVec 8) (s : State) : (State.addHalfBits k s).idle = s.idle := rfl
@[simp] theorem addHalfBits_lastTs (k : BitVec 8) (s : State) : (State.addHalfBits k s).lastTs = s.lastTs := rfl
@[simp] theorem addHalfBits_txBuf (k : BitVec 8) (s : State) : (State.addHalfBits k s).txBuf = s.txBuf := rfl
@[simp] theorem addHalfBits_txLen (k : BitVec 8) (s : State) : (State.addHalfBits k s).txLen = s.txLen := rfl
@[simp] theorem addHalfBits_cursor (k : BitVec 8) (s : State) : (State.addHalfBits k s).cursor = s.cursor := rfl
@[simp] theorem addHalfBits_coll (k : BitVec 8) (s : State) : (State.addHalfBits k s).coll = s.coll := rfl
@[simp] theorem addHalfBits_txLevel (k : BitVec 8) (s : State) : (State.addHalfBits k s).txLevel = s.txLevel := rfl
@[simp] theorem addHalfBits_rxResp (k : BitVec 8) (s : State) : (State.addHalfBits k s).rxResp = s.rxResp := rfl
@[simp] theorem addHalfBits_rxErr (k : BitVec 8) (s : State) : (State.addHalfBits k s).rxErr = s.rxErr := rfl
@[simp] theorem addHalfBits_h (k : BitVec 8) (s : State) : (State.addHalfBits k s).h = s.h + k := rfl
@[simp] theorem addHalfBits_respAcc (k : BitVec 8) (s : State) : (State.addHalfBits k s).respAcc = s.respAcc := rfl
@[simp] theorem addHalfBits_cmdAcc (k : BitVec 8) (s : State) : (State.addHalfBits k s).cmdAcc = s.cmdAcc := rfl
@[simp] theorem addHalfBits_pol (k : BitVec 8) (s : State) : (State.addHalfBits k s).pol = s.pol := rfl
@[simp] theorem addHalfBits_result (k : BitVec 8) (s : State) : (State.addHalfBits k s).result = s.result := rfl
@[simp] theorem addHalfBits_outputs (k : BitVec 8) (s : State) : (State.addHalfBits k s).outputs = s.outputs := rfl
@[simp] theorem addHalfBits_pending (k : BitVec 8) (s : State) : (State.addHalfBits k s).pending = s.pending := rfl
@[simp] theorem addHalfBits_cfg (k : BitVec 8) (s : State) : (State.addHalfBits k s).cfg = s.cfg := rfl
@[simp] theorem addHalfBits_hWrapped (k : BitVec 8) (s : State) : (State.addHalfBits k s).hWrapped = (s.hWrapped || decide (256 ≤ s.h.toNat + k.toNat)) := rfl
@[simp] theorem addHalfBits_draws (k : BitVec 8) (s : State) : (State.addHalfBits k s).draws = s.draws := rfl

/-! ## `clearLatch` -/

@[simp] theorem clearLatch_started (s : State) : (State.clearLatch s).started = s.started := rfl
@[simp] theorem clearLatch_st (s : State) : (State.clearLatch s).st = s.st := rfl
@[simp] theorem clearLatch_idle (s : State) : (State.clearLatch s).idle = s.idle := rfl
@[simp] theorem clearLatch_lastTs (s : State) : (State.clearLatch s).lastTs = s.lastTs := rfl
@[simp] theorem clearLatch_txBuf (s : State) : (State.clearLatch s).txBuf = s.txBuf := rfl
@[simp] theorem clearLatch_txLen (s : State) : (State.clearLatch s).txLen = s.txLen := rfl
@[simp] theorem clearLatch_cursor (s : State) : (State.clearLatch s).cursor = s.cursor := rfl
@[simp] theorem clearLatch_coll (s : State) : (State.clearLatch s).coll = s.coll := rfl
@[simp] theorem clearLatch_txLevel (s : State) : (State.clearLatch s).txLevel = s.txLevel := rfl
@[simp] theorem clearLatch_rxResp (s : State) : (State.clearLatch s).rxResp = s.rxResp := rfl
@[simp] theorem clearLatch_rxErr (s : State) : (State.clearLatch s).rxErr = false := rfl
@[simp] theorem clearLatch_h (s : State) : (State.clearLatch s).h = 0#8 := rfl
@[simp] theorem clearLatch_respAcc (s : State) : (State.clearLatch s).respAcc = s.respAcc := rfl
@[simp] theorem clearLatch_cmdAcc (s : State) : (State.clearLatch s).cmdAcc = s.cmdAcc := rfl
@[simp] theorem clearLatch_pol (s : State) : (State.clearLatch s).pol = s.pol := rfl
@[simp] theorem clearLatch_result (s : State) : (State.clearLatch s).result = s.result := rfl
@[simp] theorem clearLatch_outputs (s : State) : (State.clearLatch s).outputs = s.outputs := rfl
@[simp] theorem clearLatch_pending (s : State) : (State.clearLatch s).pending = s.pending := rfl
@[simp] theorem clearLatch_cfg (s : State) : (State.clearLatch s).cfg = s.cfg := rfl
@[simp] theorem clearLatch_hWrapped (s : State) : (State.clearLatch s).hWrapped = false := rfl
@[simp] theorem clearLatch_draws (s : State) : (State.clearLatch s).draws = s.draws := rfl

/-! ## `markErrored` -/

@[simp] theorem markErrored_started (s : State) : (State.markErrored s).started = s.started := rfl
@[simp] theorem markErrored_st (s : State) : (State.markErrored s).st = s.st := rfl
@[simp] theorem markErrored_idle (s : State) : (State.markErrored s).idle = s.idle := rfl
@[simp] theorem markErrored_lastTs (s : State) : (State.markErrored s).lastTs = s.lastTs := rfl
@[simp] theorem markErrored_txBuf (s : State) : (State.markErrored s).txBuf = s.txBuf := rfl
@[simp] theorem markErrored_txLen (s : State) : (State.markErrored s).txLen = s.txLen := rfl
@[simp] theorem markErrored_cursor (s : State) : (State.markErrored s).cursor = s.cursor := rfl
@[simp] theorem markErrored_coll (s : State) : (State.markErrored s).coll = s.coll := rfl
@[simp] theorem markErrored_txLevel (s : State) : (State.markErrored s).txLevel = s.txLevel := rfl
@[simp] theorem markErrored_rxResp (s : State) : (State.markErrored s).rxResp = s.rxResp := rfl
@[simp] theorem markErrored_rxErr (s : State) : (State.markErrored s).rxErr = true := rfl
@[simp] theorem markErrored_h (s : State) : (State.markErrored s).h = s.h := rfl
@[simp] theorem markErrored_respAcc (s : State) : (State.markErrored s).respAcc = s.respAcc := rfl
@[simp] theorem markErrored_cmdAcc (s : State) : (State.markErrored s).cmdAcc = s.cmdAcc := rfl
@[simp] theorem markErrored_pol (s : State) : (State.markErrored s).pol = s.pol := rfl
@[simp] theorem markErrored_result (s : State) : (State.markErrored s).result = s.result := rfl
@[simp] theorem markErrored_outputs (s : State) : (State.markErrored s).outputs = s.outputs := rfl
@[simp] theorem markErrored_pending (s : State) : (State.markErrored s).pending = s.pending := rfl
@[simp] theorem markErrored_cfg (s : State) : (State.markErrored s).cfg = s.cfg := rfl
@[simp] theorem markErrored_hWrapped (s : State) : (State.markErrored s).hWrapped = s.hWrapped := rfl
@[simp] theorem markErrored_draws (s : State) : (State.markErrored s).draws = s.draws := rfl

/-! ## `clearAccumulators` -/

@[simp] theorem clearAccumulators_started (s : State) : (State.clearAccumulators s).started = s.started := rfl
@[simp] theorem clearAccumulators_st (s : State) : (State.clearAccumulators s).st = s.st := rfl
@[simp] theorem clearAccumulators_idle (s : State) : (State.clearAccumulators s).idle = s.idle := rfl
@[simp] theorem clearAccumulators_lastTs (s : State) : (State.clearAccumulators s).lastTs = s.lastTs := rfl
@[simp] theorem clearAccumulators_txBuf (s : State) : (State.clearAccumulators s).txBuf = s.txBuf := rfl
@[simp] theorem clearAccumulators_txLen (s : State) : (State.clearAccumulators s).txLen = s.txLen := rfl
@[simp] theorem clearAccumulators_cursor (s : State) : (State.clearAccumulators s).cursor = s.cursor := rfl
@[simp] theorem clearAccumulators_coll (s : State) : (State.clearAccumulators s).coll = s.coll := rfl
@[simp] theorem clearAccumulators_txLevel (s : State) : (State.clearAccumulators s).txLevel = s.txLevel := rfl
@[simp] theorem clearAccumulators_rxResp (s : State) : (State.clearAccumulators s).rxResp = s.rxResp := rfl
@[simp] theorem clearAccumulators_rxErr (s : State) : (State.clearAccumulators s).rxErr = s.rxErr := rfl
@[simp] theorem clearAccumulators_h (s : State) : (State.clearAccumulators s).h = s.h := rfl
@[simp] theorem clearAccumulators_respAcc (s : State) : (State.clearAccumulators s).respAcc = 0#16 := rfl
@[simp] theorem clearAccumulators_cmdAcc (s : State) : (State.clearAccumulators s).cmdAcc = 0#32 := rfl
@[simp] theorem clearAccumulators_pol (s : State) : (State.clearAccumulators s).pol = s.pol := rfl
@[simp] theorem clearAccumulators_result (s : State) : (State.clearAccumulators s).result = s.result := rfl
@[simp] theorem clearAccumulators_outputs (s : State) : (State.clearAccumulators s).outputs = s.outputs := rfl
@[simp] theorem clearAccumulators_pending (s : State) : (State.clearAccumulators s).pending = s.pending := rfl
@[simp] theorem clearAccumulators_cfg (s : State) : (State.clearAccumulators s).cfg = s.cfg := rfl
@[simp] theorem clearAccumulators_hWrapped (s : State) : (State.clearAccumulators s).hWrapped = s.hWrapped := rfl
@[simp] theorem clearAccumulators_draws (s : State) : (State.clearAccumulators s).draws = s.draws := rfl

/-! ## `drawn` -/

@[simp] theorem drawn_started (k : Nat) (s : State) : (State.drawn k s).started = s.started := rfl
@[simp] theorem drawn_st (k : Nat) (s : State) : (State.drawn k s).st = s.st := rfl
@[simp] theorem drawn_idle (k : Nat) (s : State) : (State.drawn k s).idle = s.idle := rfl
@[simp] theorem drawn_lastTs (k : Nat) (s : State) : (State.drawn k s).lastTs = s.lastTs := rfl
@[simp] theorem drawn_txBuf (k : Nat) (s : State) : (State.drawn k s).txBuf = s.txBuf := rfl
@[simp] theorem drawn_txLen (k : Nat) (s : State) : (State.drawn k s).txLen = s.txLen := rfl
@[simp] theorem drawn_cursor (k : Nat) (s : State) : (State.drawn k s).cursor = s.cursor := rfl
@[simp] theorem drawn_coll (k : Nat) (s : State) : (State.drawn k s).coll = s.coll := rfl
@[simp] theorem drawn_txLevel (k : Nat) (s : State) : (State.drawn k s).txLevel = s.txLevel := rfl
@[simp] theorem drawn_rxResp (k : Nat) (s : State) : (State.drawn k s).rxResp = s.rxResp := rfl
@[simp] theorem drawn_rxErr (k : Nat) (s : State) : (State.drawn k s).rxErr = s.rxErr := rfl
@[simp] theorem drawn_h (k : Nat) (s : State) : (State.drawn k s).h = s.h := rfl
@[simp] theorem drawn_respAcc (k : Nat) (s : State) : (State.drawn k s).respAcc = s.respAcc := rfl
@[simp] theorem drawn_cmdAcc (k : Nat) (s : State) : (State.drawn k s).cmdAcc = s.cmdAcc := rfl
@[simp] theorem drawn_pol (k : Nat) (s : State) : (State.drawn k s).pol = s.pol := rfl
@[simp] theorem drawn_result (k : Nat) (s : State) : (State.drawn k s).result = s.result := rfl
@[simp] theorem drawn_outputs (k : Nat) (s : State) : (State.drawn k s).outputs = s.outputs := rfl
@[simp] theorem drawn_pending (k : Nat) (s : State) : (State.drawn k s).pending = s.pending := rfl
@[simp] theorem drawn_cfg (k : Nat) (s : State) : (State.drawn k s).cfg = s.cfg := rfl
@[simp] theorem drawn_hWrapped (k : Nat) (s : State) : (State.drawn k s).hWrapped = s.hWrapped := rfl
@[simp] theorem drawn_draws (k : Nat) (s : State) : (State.drawn k s).draws = s.draws + k := rfl

/-! ## `countTick` -/

@[simp] theorem countTick_started (s : State) : (State.countTick s).started = s.started := rfl
@[simp] theorem countTick_st (s : State) : (State.countTick s).st = s.st := rfl
@[simp] theorem countTick_idle (s : State) : (State.countTick s).idle = satInc8 s.idle := rfl
@[simp] theorem countTick_lastTs (s : State) : (State.countTick s).lastTs = s.lastTs := rfl
@[simp] theorem countTick_txBuf (s : State) : (State.countTick s).txBuf = s.txBuf := rfl
@[simp] theorem countTick_txLen (s : State) : (State.countTick s).txLen = s.txLen := rfl
@[simp] theorem countTick_cursor (s : State) : (State.countTick s).cursor = s.cursor := rfl
@[simp] theorem countTick_coll (s : State) : (State.countTick s).coll = s.coll := rfl
@[simp] theorem countTick_txLevel (s : State) : (State.countTick s).txLevel = s.txLevel := rfl
@[simp] theorem countTick_rxResp (s : State) : (State.countTick s).rxResp = s.rxResp := rfl
@[simp] theorem countTick_rxErr (s : State) : (State.countTick s).rxErr = s.rxErr := rfl
@[simp] theorem countTick_h (s : State) : (State.countTick s).h = s.h := rfl
@[simp] theorem countTick_respAcc (s : State) : (State.countTick s).respAcc = s.respAcc := rfl
@[simp] theorem countTick_cmdAcc (s : State) : (State.countTick s).cmdAcc = s.cmdAcc := rfl
@[simp] theorem countTick_pol (s : State) : (State.countTick s).pol = s.pol := rfl
@[simp] theorem countTick_result (s : State) : (State.countTick s).result = s.result := rfl
@[simp] theorem countTick_outputs (s : State) : (State.countTick s).outputs = s.outputs := rfl
@[simp] theorem countTick_pending (s : State) : (State.countTick s).pending = s.pending := rfl
@[simp] theorem countTick_cfg (s : State) : (State.countTick s).cfg = s.cfg := rfl
@[simp] theorem countTick_hWrapped (s : State) : (State.countTick s).hWrapped = s.hWrapped := rfl
@[simp] theorem countTick_draws (s : State) : (State.countTick s).draws = s.draws := rfl

/-! ## `noteEdge` -/

@[simp] theorem noteEdge_started (t : BitVec 32) (s : State) : (State.noteEdge t s).started = s.started := rfl
@[simp] theorem noteEdge_st (t : BitVec 32) (s : State) : (State.noteEdge t s).st = s.st := rfl
@[simp] theorem noteEdge_idle (t : BitVec 32) (s : State) : (State.noteEdge t s).idle = 0#8 := rfl
@[simp] theorem noteEdge_lastTs (t : BitVec 32) (s : State) : (State.noteEdge t s).lastTs = t := rfl
@[simp] theorem noteEdge_txBuf (t : BitVec 32) (s : State) : (State.noteEdge t s).txBuf = s.txBuf := rfl
@[simp] theorem noteEdge_txLen (t : BitVec 32) (s : State) : (State.noteEdge t s).txLen = s.txLen := rfl
@[simp] theorem noteEdge_cursor (t : BitVec 32) (s : State) : (State.noteEdge t s).cursor = s.cursor := rfl
@[simp] theorem noteEdge_coll (t : BitVec 32) (s : State) : (State.noteEdge t s).coll = s.coll := rfl
@[simp] theorem noteEdge_txLevel (t : BitVec 32) (s : State) : (State.noteEdge t s).txLevel = s.txLevel := rfl
@[simp] theorem noteEdge_rxResp (t : BitVec 32) (s : State) : (State.noteEdge t s).rxResp = s.rxResp := rfl
@[simp] theorem noteEdge_rxErr (t : BitVec 32) (s : State) : (State.noteEdge t s).rxErr = s.rxErr := rfl
@[simp] theorem noteEdge_h (t : BitVec 32) (s : State) : (State.noteEdge t s).h = s.h := rfl
@[simp] theorem noteEdge_respAcc (t : BitVec 32) (s : State) : (State.noteEdge t s).respAcc = s.respAcc := rfl
@[simp] theorem noteEdge_cmdAcc (t : BitVec 32) (s : State) : (State.noteEdge t s).cmdAcc = s.cmdAcc := rfl
@[simp] theorem noteEdge_pol (t : BitVec 32) (s : State) : (State.noteEdge t s).pol = s.pol := rfl
@[simp] theorem noteEdge_result (t : BitVec 32) (s : State) : (State.noteEdge t s).result = s.result := rfl
@[simp] theorem noteEdge_outputs (t : BitVec 32) (s : State) : (State.noteEdge t s).outputs = s.outputs := rfl
@[simp] theorem noteEdge_pending (t : BitVec 32) (s : State) : (State.noteEdge t s).pending = s.pending := rfl
@[simp] theorem noteEdge_cfg (t : BitVec 32) (s : State) : (State.noteEdge t s).cfg = s.cfg := rfl
@[simp] theorem noteEdge_hWrapped (t : BitVec 32) (s : State) : (State.noteEdge t s).hWrapped = s.hWrapped := rfl
@[simp] theorem noteEdge_draws (t : BitVec 32) (s : State) : (State.noteEdge t s).draws = s.draws := rfl

/-! ## `shiftIn`: only the active accumulator changes (43_edge_receive.md R100) -/

@[simp] theorem shiftIn_started (l : Level) (s : State) : (State.shiftIn l s).started = s.started := by
  unfold State.shiftIn; split <;> rfl
@[simp] theorem shiftIn_st (l : Level) (s : State) : (State.shiftIn l s).st = s.st := by
  unfold State.shiftIn; split <;> rfl
@[simp] theorem shiftIn_idle (l : Level) (s : State) : (State.shiftIn l s).idle = s.idle := by
  unfold State.shiftIn; split <;> rfl
@[simp] theorem shiftIn_lastTs (l : Level) (s : State) : (State.shiftIn l s).lastTs = s.lastTs := by
  unfold State.shiftIn; split <;> rfl
@[simp] theorem shiftIn_txBuf (l : Level) (s : State) : (State.shiftIn l s).txBuf = s.txBuf := by
  unfold State.shiftIn; split <;> rfl
@[simp] theorem shiftIn_txLen (l : Level) (s : State) : (State.shiftIn l s).txLen = s.txLen := by
  unfold State.shiftIn; split <;> rfl
@[simp] theorem shiftIn_cursor (l : Level) (s : State) : (State.shiftIn l s).cursor = s.cursor := by
  unfold State.shiftIn; split <;> rfl
@[simp] theorem shiftIn_coll (l : Level) (s : State) : (State.shiftIn l s).coll = s.coll := by
  unfold State.shiftIn; split <;> rfl
@[simp] theorem shiftIn_txLevel (l : Level) (s : State) : (State.shiftIn l s).txLevel = s.txLevel := by
  unfold State.shiftIn; split <;> rfl
@[simp] theorem shiftIn_rxResp (l : Level) (s : State) : (State.shiftIn l s).rxResp = s.rxResp := by
  unfold State.shiftIn; split <;> rfl
@[simp] theorem shiftIn_rxErr (l : Level) (s : State) : (State.shiftIn l s).rxErr = s.rxErr := by
  unfold State.shiftIn; split <;> rfl
@[simp] theorem shiftIn_h (l : Level) (s : State) : (State.shiftIn l s).h = s.h := by
  unfold State.shiftIn; split <;> rfl
@[simp] theorem shiftIn_pol (l : Level) (s : State) : (State.shiftIn l s).pol = s.pol := by
  unfold State.shiftIn; split <;> rfl
@[simp] theorem shiftIn_result (l : Level) (s : State) : (State.shiftIn l s).result = s.result := by
  unfold State.shiftIn; split <;> rfl
@[simp] theorem shiftIn_outputs (l : Level) (s : State) : (State.shiftIn l s).outputs = s.outputs := by
  unfold State.shiftIn; split <;> rfl
@[simp] theorem shiftIn_pending (l : Level) (s : State) : (State.shiftIn l s).pending = s.pending := by
  unfold State.shiftIn; split <;> rfl
@[simp] theorem shiftIn_cfg (l : Level) (s : State) : (State.shiftIn l s).cfg = s.cfg := by
  unfold State.shiftIn; split <;> rfl
@[simp] theorem shiftIn_hWrapped (l : Level) (s : State) : (State.shiftIn l s).hWrapped = s.hWrapped := by
  unfold State.shiftIn; split <;> rfl
@[simp] theorem shiftIn_draws (l : Level) (s : State) : (State.shiftIn l s).draws = s.draws := by
  unfold State.shiftIn; split <;> rfl

theorem shiftIn_respAcc (l : Level) (s : State) :
    (State.shiftIn l s).respAcc = if s.rxResp then s.respAcc <<< 1 ||| (bitOfLevel l).setWidth 16 else s.respAcc := by
  unfold State.shiftIn; split <;> rfl

theorem shiftIn_cmdAcc (l : Level) (s : State) :
    (State.shiftIn l s).cmdAcc = if s.rxResp then s.cmdAcc else s.cmdAcc <<< 1 ||| (bitOfLevel l).setWidth 32 := by
  unfold State.shiftIn; split <;> rfl

end Sys2Proof.Machine
end

