-- ==== Sys2Proof/Laws/Ops.lean ====
section
/-! SUPPORT. What each shared operation can do, one lemma each, for later proofs to cite. -/

namespace Sys2Proof.Machine

open Sys2Proof

/-! ## Performing and refusing an event (30_encoding.md R54) -/

theorem whenStarted_eq_next_iff {s n t : State} : whenStarted s n = .next t ↔ s.started = true ∧ n = t := by
  unfold whenStarted
  cases s.started <;> simp

theorem whenUnstarted_eq_next_iff {s n t : State} : whenUnstarted s n = .next t ↔ s.started = false ∧ n = t := by
  unfold whenUnstarted
  cases s.started <;> simp

@[simp] theorem whenStarted_of_started {s : State} (n : State) (h : s.started = true) : whenStarted s n = .next n := by
  simp [whenStarted, h]

@[simp] theorem whenUnstarted_of_unstarted {s : State} (n : State) (h : s.started = false) :
    whenUnstarted s n = .next n := by
  simp [whenUnstarted, h]

/-! ## Primitives (00_scope.md R13) -/

/-- `sat_inc_8` as arithmetic: one more, at most 255. -/
theorem satInc8_toNat (v : BitVec 8) : (satInc8 v).toNat = min 255 (v.toNat + 1) := by
  unfold satInc8
  split
  · next h => simp [h]
  · next h =>
    have : v.toNat ≠ 255 := fun e => h (BitVec.eq_of_toNat_eq e)
    have := v.isLt
    rw [BitVec.toNat_add]
    simp
    omega

/-- The transmitting states by name (10_state.md R18). -/
theorem isTx_iff (b : BusState) :
    isTx b = true ↔ b = .txStart1st ∨ b = .txStart2nd ∨ b = .txBit1st ∨ b = .txBit2nd ∨ b = .txStop1st ∨ b = .txStop := by
  cases b <;> decide

@[simp] theorem oppositeLevel_oppositeLevel (l : Level) : oppositeLevel (oppositeLevel l) = l := by cases l <;> rfl

theorem ne_iff_eq_oppositeLevel (l v : Level) : l ≠ v ↔ l = oppositeLevel v := by cases l <;> cases v <;> decide

/-! ## The transmit buffer (20_memory.md R36) -/

/-- A byte read after a write to it is the byte written. -/
theorem TxBuf.read_write_same (b : TxBuf) (v : Byte) {i : Nat} (h : i < 4) : (b.write i v).read i = some v := by
  interval_cases i <;> rfl

/-- A write leaves every other byte alone. -/
theorem TxBuf.read_write_other (b : TxBuf) (v : Byte) {i j : Nat} (h : j ≠ i) : (b.write i v).read j = b.read j := by
  unfold TxBuf.write
  split <;> unfold TxBuf.read <;> split <;> simp_all

/-- Every bit of the four bytes is defined. -/
theorem TxBuf.bit_isSome (b : TxBuf) {i : Nat} (h : i < 32) : (b.bit i).isSome = true := by
  have h8 : i / 8 < 4 := by omega
  unfold TxBuf.bit
  generalize i / 8 = k at h8
  interval_cases k <;> rfl

/-- The current bit is defined while the cursor is inside a frame of at most 32 bits (R39). -/
theorem currentBit_isSome {s : State} (h : s.cursor < s.txLen) (hl : s.txLen ≤ 32#8) : s.currentBit.isSome = true := by
  have : s.cursor.toNat < 32 := by bv_omega
  simp [State.currentBit, h, TxBuf.bit_isSome _ this]

/-! ## Delivering a frame (41_tick.md R85, R87) -/

/-- All that a delivery does: one `Frame` with the length of R84 joins the output, its bytes by rule where R85 gives them. -/
theorem deliverFrame_eq (s : State) :
    (∃ b0 b1 b2, s.frameBytes = some (b0, b1, b2) ∧ s.deliverFrame = s.emit (.frame b0 b1 b2 (frameLength s.h))) ∨
    (s.frameBytes = none ∧ ∃ b0 b1 b2, s.deliverFrame = (s.emit (.frame b0 b1 b2 (frameLength s.h))).drawn 3) := by
  unfold State.deliverFrame
  cases h : s.frameBytes with
  | none => exact .inr ⟨rfl, _, _, _, rfl⟩
  | some b => exact .inl ⟨_, _, _, rfl, rfl⟩

/-! ## The two rules of an event -/

/-- All that the state table of TICK can do to the fields that no row names (41_tick.md R71, "TICK never writes"). -/
theorem tickTable_keeps (s : State) :
    (tickTable s).started = s.started ∧ (tickTable s).lastTs = s.lastTs ∧ (tickTable s).txBuf = s.txBuf ∧
    (tickTable s).txLen = s.txLen ∧ (tickTable s).coll = s.coll ∧ (tickTable s).rxResp = s.rxResp ∧
    (tickTable s).rxErr = s.rxErr ∧ (tickTable s).h = s.h ∧ (tickTable s).respAcc = s.respAcc ∧
    (tickTable s).cmdAcc = s.cmdAcc ∧ (tickTable s).pol = s.pol ∧ (tickTable s).result = s.result ∧
    (tickTable s).pending = s.pending ∧ (tickTable s).cfg = s.cfg ∧ (tickTable s).hWrapped = s.hWrapped := by
  unfold tickTable
  split <;>
    simp only [tickTxStart1st, tickTxStart2nd, tickTxBit1st, tickTxBit2nd, tickTxStop1st, tickTxStop, tickWaitRx,
      tickRxStop, tickRxEnd, State.deliverFrame] <;>
    (repeat' split) <;> simp

/-- All that a state rule of EDGE can do to the fields that no rule names (42_edge_collision.md R89, "EDGE never writes"). -/
theorem edgeRule_keeps (l : Level) (d : BitVec 32) (s : State) :
    (edgeRule l d s).started = s.started ∧ (edgeRule l d s).idle = s.idle ∧ (edgeRule l d s).lastTs = s.lastTs ∧
    (edgeRule l d s).txBuf = s.txBuf ∧ (edgeRule l d s).txLen = s.txLen ∧ (edgeRule l d s).cursor = s.cursor ∧
    (edgeRule l d s).txLevel = s.txLevel ∧ (edgeRule l d s).pol = s.pol ∧ (edgeRule l d s).result = s.result ∧
    (edgeRule l d s).pending = s.pending ∧ (edgeRule l d s).cfg = s.cfg ∧ (edgeRule l d s).draws = s.draws := by
  unfold edgeRule
  split <;>
    simp only [edgeTx, edgeWaitRx, edgeIdle, edgeRxStart, edgeRxBit, endResponse, decoderStep, edgeShort] <;>
    (repeat' split) <;> simp

/-! ## Runs -/

@[simp] theorem execAll_nil (s : State) : execAll [] s = .next s := rfl

/-- One event of a run. -/
theorem execAll_cons_of_next {i : Instr} {s t : State} (h : exec i s = .next t) (is : List Instr) :
    execAll (i :: is) s = execAll is t := by
  simp [execAll, h]

/-- A run of two lists is the run of the second from where the first ends. -/
theorem execAll_append_of_next {is js : List Instr} {s t : State} (h : execAll is s = .next t) :
    execAll (is ++ js) s = execAll js t := by
  induction is generalizing s with
  | nil => simp_all
  | cons i is ih =>
    cases hi : exec i s with
    | next u => rw [execAll_cons_of_next hi] at h; rw [List.cons_append, execAll_cons_of_next hi, ih h]
    | fault r => exact r.casesOn
    | refused r => simp [execAll, hi] at h

/-- An invariant that every event keeps holds after every run. -/
theorem execAll_induction {P : State → Prop} (step_keeps : ∀ i s t, P s → exec i s = .next t → P t) :
    ∀ is s t, P s → execAll is s = .next t → P t
  | [], s, t, hs, h => by simp at h; exact h ▸ hs
  | i :: is, s, t, hs, h => by
    cases hi : exec i s with
    | next u => exact execAll_induction step_keeps is u t (step_keeps i s u hs hi) (execAll_cons_of_next hi is ▸ h)
    | fault r => exact r.casesOn
    | refused r => simp [execAll, hi] at h

end Sys2Proof.Machine
end

