-- ==== Sys2Proof/Laws/Operands.lean ====
section
/-! SUPPORT. What the operand forms and the tested conditions are, one lemma each: lengths, the repack and the extraction of a frame,
the stuck-low test, the timing buckets. -/

namespace Sys2Proof.Machine

open Sys2Proof

/-! ## SEND -/

theorem sendLengthOk_iff (n : Byte) : sendLengthOk n = true ↔ n = 16#8 ∨ n = 24#8 ∨ n = 25#8 := by
  simp [sendLengthOk, or_assoc]

/-- The repacked buffer (40_init_and_send.md R70). -/
theorem loadFrame_25 (b0 b1 b2 b3 : Byte) (buf : TxBuf) :
    loadFrame 25#8 b0 b1 b2 b3 buf = ⟨b0, b1, 1#1 ++ b2.extractLsb' 1 7, b2.extractLsb' 0 1 ++ 0#7⟩ := rfl

/-- The buffer of a frame that is not repacked (R69). -/
theorem loadFrame_of_ne {n : Byte} (h : n ≠ 25#8) (b0 b1 b2 b3 : Byte) (buf : TxBuf) :
    loadFrame n b0 b1 b2 b3 buf = ⟨b0, b1, b2, b3⟩ := by
  simp [loadFrame, h, TxBuf.write]

/-! ## Frame delivery -/

theorem frameLength_toNat (h : BitVec 8) : (frameLength h).toNat = h.toNat / 2 := by
  simp [frameLength, Nat.shiftRight_eq_div_pow]

/-- The bytes of a realigned 25-bit command (41_tick.md R86). -/
theorem realign25_bytes (acc : BitVec 32) :
    (realign25 acc).extractLsb' 16 8 = acc.extractLsb' 17 8 ∧ (realign25 acc).extractLsb' 8 8 = acc.extractLsb' 9 8 ∧
    (realign25 acc).extractLsb' 0 8 = acc.extractLsb' 0 8 := by
  have bits : ∀ i, (realign25 acc).getLsbD i =
      if i < 8 then (acc.extractLsb' 0 8).getLsbD i else if i < 16 then (acc.extractLsb' 9 8).getLsbD (i - 8)
      else (acc.extractLsb' 17 8).getLsbD (i - 16) := by
    intro i
    show BitVec.getLsbD (w := 8 + 8 + 8) (acc.extractLsb' 17 8 ++ acc.extractLsb' 9 8 ++ acc.extractLsb' 0 8) i = _
    simp only [BitVec.getLsbD_append]
    grind
  refine ⟨?_, ?_, ?_⟩ <;> apply BitVec.eq_of_getLsbD_eq <;> intro i hi <;> rw [BitVec.getLsbD_extractLsb', bits] <;>
    interval_cases i <;> simp

/-- The lengths whose bytes the spec gives (R85, R87). -/
theorem extractFrame_isSome_iff (len : BitVec 8) (acc : BitVec 32) :
    (extractFrame len acc).isSome = true ↔ len = 8#8 ∨ len = 16#8 ∨ len = 24#8 ∨ len = 25#8 := by
  unfold extractFrame
  grind

/-! ## Shifting a bit in -/

/-- A shift of one level into an accumulator, as arithmetic (43_edge_receive.md R100). -/
theorem shiftBit_toNat {w : Nat} (a : BitVec w) (b : BitVec 1) :
    (a <<< 1 ||| b.setWidth w).toNat = (2 * a.toNat + b.toNat) % 2 ^ w := by
  have hz : a <<< 1 &&& b.setWidth w = 0#w := by
    apply BitVec.eq_of_getLsbD_eq
    intro i hi
    simp only [BitVec.getLsbD_and, BitVec.getLsbD_shiftLeft, BitVec.getLsbD_setWidth, BitVec.getLsbD_zero]
    rcases i with _ | i <;> simp
  rw [← BitVec.add_eq_or_of_and_eq_zero _ _ hz, BitVec.toNat_add, BitVec.toNat_shiftLeft, BitVec.toNat_setWidth,
    Nat.shiftLeft_eq, ← Nat.add_mod]
  congr 1
  omega

/-! ## Conditions -/

theorem halfBitOdd_iff (s : State) : halfBitOdd s = true ↔ s.h.toNat % 2 = 1 := by
  have h : ∀ v : BitVec 8, v.getLsbD 0 = true ↔ v.toNat % 2 = 1 := by decide
  exact h s.h

/-- The stuck-low test, read on the state before the TICK (41_tick.md R73). -/
theorem pulldownFires_iff (l : Level) (s : State) : pulldownFires l s.startEvent.countTick = true ↔ StuckLow l s := by
  simp [pulldownFires, StuckLow, pulldownTicks, BitVec.le_def, and_assoc]

/-- In a transmitting state the line is never found stuck low. -/
theorem not_stuckLow_of_isTx {l : Level} {s : State} (h : isTx s.st = true) : ¬ StuckLow l s := fun hs => by
  simp [StuckLow, h] at hs

/-- A TICK that does not find the line stuck low runs the state table (R71). -/
theorem tickEvent_of_not_stuckLow {l : Level} {s : State} (h : ¬ StuckLow l s) :
    tickEvent l s = tickTable (ticked s) := by
  rw [tickEvent, tickRule, if_neg (by rwa [pulldownFires_iff])]
  rfl

/-- An EDGE in a transmitting state runs the collision test (42_edge_collision.md R89). -/
theorem edgeRule_of_isTx {s : State} (h : isTx s.st = true) (l : Level) (d : BitVec 32) : edgeRule l d s = edgeTx l s := by
  rcases (isTx_iff _).1 h with h | h | h | h | h | h <;> simp [edgeRule, h]

end Sys2Proof.Machine
end

