-- ==== Sys2Proof/Laws/PerInstr.lean ====
section
/-! SUPPORT. Facts about each instruction as syntax: the word that encodes it passes both checks of 30_encoding.md R53. -/

namespace Sys2Proof.Laws.EncodeWellFormed

open Sys2Proof

/-- The instruction's word has a known opcode and zero in every reserved bit. -/
abbrev Statement (i : Instr) : Prop := wordWellFormed (encode i) = true

theorem begin (p : Bool) : Statement (.begin p) := by cases p <;> decide

theorem tick (l : Level) : Statement (.tick l) := by cases l <;> decide

theorem edge (l : Level) (t : BitVec 32) : Statement (.edge l t) := by
  simp [Statement, wordWellFormed, opcodeKnown, reservedZero, reservedMask, opcodeOf_encode_edge, encode_edge_reserved]

theorem send (n b0 b1 b2 b3 : Byte) : Statement (.send n b0 b1 b2 b3) := by
  simp [Statement, wordWellFormed, opcodeKnown, reservedZero, reservedMask, opcodeOf_encode_send, encode_send_reserved]

theorem readResponse : Statement .readResponse := by decide

theorem isIdle : Statement .isIdle := by decide

end Sys2Proof.Laws.EncodeWellFormed
end

