-- ==== Sys2Proof/Laws/Runs.lean ====
section
/-! SUPPORT. What runs of events can do, one lemma each: the gaps between the edges of a reception, and undisturbed runs. -/

namespace Sys2Proof.Machine

open Sys2Proof

/-! ## Counting TICKs -/

@[simp] theorem tickCount_nil : tickCount [] = 0 := rfl

theorem tickCount_cons (i : Instr) (is : List Instr) :
    tickCount (i :: is) = tickCount is + if isTick i then 1 else 0 := by
  simp [tickCount, List.countP_cons]

theorem quietGap_iff (n : Nat) (is : List Instr) :
    quietGap n is = true ↔ (∀ i ∈ is, fallsBetween i = true) ∧ (tickCount is = 0 ∨ n + tickCount is ≤ 3) := by
  simp [quietGap]

/-- A gap whose first event is no TICK: the rest is a quiet gap from the same `idle`. -/
theorem quietGap_of_cons {n : Nat} {i : Instr} {is : List Instr} (hi : isTick i = false)
    (h : quietGap n (i :: is) = true) : quietGap n is = true := by
  simp only [quietGap_iff, tickCount_cons, hi, List.mem_cons, forall_eq_or_imp] at h ⊢
  simpa using ⟨h.1.2, h.2⟩

/-- A gap whose first event is a TICK leaves `idle` at most 3, and the rest is a quiet gap from one more. -/
theorem quietGap_of_cons_tick {n : Nat} {l : Level} {is : List Instr} (h : quietGap n (.tick l :: is) = true) :
    n + 1 ≤ 3 ∧ quietGap (n + 1) is = true := by
  simp only [quietGap_iff, tickCount_cons, List.mem_cons, forall_eq_or_imp, isTick, if_true] at h ⊢
  exact ⟨by omega, h.1.2, .inr (by omega)⟩

/-! ## Gaps -/

/-- Adding one to `idle` below its greatest value. -/
theorem satInc8_of_lt {v : BitVec 8} (h : v.toNat < 255) : satInc8 v = v + 1#8 := by
  rw [satInc8, if_neg]
  rintro rfl
  simp at h

/-- A TICK that leaves `idle` at most 3 only counts, in the three states of a reception. -/
theorem exec_tick_receiving {l : Level} {s : State} (hs : s.started = true)
    (hst : s.st = .rxStart ∨ s.st = .rxBit ∨ s.st = .rxStop) (hi : s.idle.toNat + 1 ≤ 3) :
    exec (.tick l) s = .next { s with idle := s.idle + 1#8, result := none, outputs := [] } := by
  have hsat : satInc8 s.idle = s.idle + 1#8 := satInc8_of_lt (by omega)
  have hle : (s.idle + 1#8).toNat ≤ 3 := by bv_omega
  have hn : ¬ StuckLow l s := by rintro ⟨_, _, _, h⟩; rw [hsat] at h; omega
  have hend : ¬ rxEndTicks < s.idle + 1#8 := by unfold rxEndTicks; bv_omega
  have hstop : ¬ rxStopTicks < s.idle + 1#8 := by unfold rxStopTicks; bv_omega
  have htable : tickTable (ticked s) = ticked s := by
    rcases hst with h | h | h <;> simp [tickTable, ticked, h, tickRxEnd, tickRxStop, hsat, hend, hstop]
  simp only [exec, execTick, whenStarted_of_started _ hs, tickEvent_of_not_stuckLow hn, htable]
  simp [ticked, hsat]

/-- A SEND outside `IDLE` is rejected and leaves the record. -/
theorem exec_send_rejected {s : State} (hs : s.started = true) (hst : s.st ≠ .idle) (n b0 b1 b2 b3 : Byte) :
    ∃ r o, exec (.send n b0 b1 b2 b3) s = .next { s with result := r, outputs := o } := by
  simp only [exec, execSend, whenStarted_of_started _ hs, sendEvent]
  cases sendLengthOk n
  · exact ⟨_, _, rfl⟩
  · simp only [Bool.not_true, Bool.false_eq_true, if_false, hst, ne_eq, not_false_eq_true, if_true]
    exact ⟨_, _, rfl⟩

/-- All that a quiet gap does in the three states of a reception: its TICKs are counted, the record stays otherwise. -/
theorem execAll_quietGap {is : List Instr} : ∀ {s : State}, s.started = true →
    s.st = .rxStart ∨ s.st = .rxBit ∨ s.st = .rxStop → quietGap s.idle.toNat is = true →
    ∃ k r o, execAll is s = .next { s with idle := k, result := r, outputs := o } ∧
      k.toNat = s.idle.toNat + tickCount is := by
  induction is with
  | nil => exact fun {s} _ _ _ => ⟨s.idle, s.result, s.outputs, rfl, rfl⟩
  | cons i is ih =>
    intro s hs hst hg
    have next : ∀ (k : BitVec 8) r o, exec i s = .next { s with idle := k, result := r, outputs := o } →
        k.toNat + tickCount is = s.idle.toNat + tickCount (i :: is) → quietGap k.toNat is = true →
        ∃ k r o, execAll (i :: is) s = .next { s with idle := k, result := r, outputs := o } ∧
          k.toNat = s.idle.toNat + tickCount (i :: is) := by
      intro k r o he hk hq
      obtain ⟨k', r', o', e, hk'⟩ := ih (s := { s with idle := k, result := r, outputs := o }) hs hst hq
      exact ⟨k', r', o', by rw [execAll_cons_of_next he, e], hk'.trans hk⟩
    cases i with
    | tick l =>
      obtain ⟨h3, hq⟩ := quietGap_of_cons_tick hg
      have hk : (s.idle + 1#8).toNat = s.idle.toNat + 1 := by bv_omega
      exact next _ _ _ (exec_tick_receiving hs hst h3) (by rw [tickCount_cons, hk]; simp [isTick]; omega) (by rw [hk]; exact hq)
    | isIdle =>
      exact next s.idle _ _ (by rw [exec, execIsIdle, whenStarted_of_started _ hs]; rfl)
        (by simp [tickCount_cons, isTick]) (quietGap_of_cons rfl hg)
    | send n b0 b1 b2 b3 =>
      obtain ⟨r, o, he⟩ := exec_send_rejected hs (by rintro h; simp [h] at hst) n b0 b1 b2 b3
      exact next s.idle r o he (by simp [tickCount_cons, isTick]) (quietGap_of_cons rfl hg)
    | begin p => simp [quietGap, fallsBetween] at hg
    | edge l t => simp [quietGap, fallsBetween] at hg
    | readResponse => simp [quietGap, fallsBetween] at hg

/-- The events of a reception are those up to and with its first edge, and then those of the rest. -/
theorem arrivals_cons (t : BitVec 32) (a : Arrival) (as : List Arrival) :
    arrivals t (a :: as) = (a.gap ++ [.edge a.level (t + a.distance)]) ++ arrivals (t + a.distance) as := by
  simp [arrivals]

/-! ## Undisturbed runs -/

/-- TICKs that sample `HIGH` are an undisturbed run from every state. -/
theorem undisturbed_highTicks : ∀ (n : Nat) (s : State), Undisturbed (highTicks n) s
  | 0, _ => trivial
  | n + 1, _ => ⟨.inl ⟨_, rfl, .inl rfl⟩, fun t _ => undisturbed_highTicks n t⟩

end Sys2Proof.Machine
end

