-- ==== Sys2Proof/Tests/Slice0.lean ====
section
/-! SUPPORT. Tests: ill-formed words are refused, words written out from the spec decode, one or two steps per event with the
outcomes of 95_test_vectors.md, and for each obligation with hypotheses values that meet them. -/

namespace Sys2Proof.Tests

open Sys2Proof Sys2Proof.Machine

/-! ## Ill-formed words (30_encoding.md R53; 95 B6 to B9) -/

theorem test_opcode_0_refused : wordWellFormed 0x0#64 = false ∧ decode 0x0#64 = .error .reservedOpcode := by decide

theorem test_opcode_7_refused : wordWellFormed 0x7#64 = false ∧ decode 0x7#64 = .error .reservedOpcode := by decide

theorem test_opcode_15_refused : wordWellFormed 0xF#64 = false ∧ decode 0xF#64 = .error .reservedOpcode := by decide

/-- BEGIN with bit 63 set. -/
theorem test_begin_reserved_refused :
    wordWellFormed 0x8000000000000001#64 = false ∧ decode 0x8000000000000001#64 = .error .reservedBit := by decide

/-- B7: TICK with bit 5 set. -/
theorem test_tick_reserved_refused : wordWellFormed 0x22#64 = false ∧ decode 0x22#64 = .error .reservedBit := by decide

/-- EDGE with bit 31 set, the highest reserved one. -/
theorem test_edge_reserved_refused :
    wordWellFormed 0x0000000080000003#64 = false ∧ decode 0x0000000080000003#64 = .error .reservedBit := by decide

/-- B8: SEND with bit 48 set, the lowest of its upper reserved bits; and SEND with bit 4 set. -/
theorem test_send_reserved_refused :
    decode 0x0001000000001004#64 = .error .reservedBit ∧ decode 0x1014#64 = .error .reservedBit := by decide

/-- B9: READ_RESPONSE with bit 4 set. -/
theorem test_read_reserved_refused : wordWellFormed 0x15#64 = false ∧ decode 0x15#64 = .error .reservedBit := by decide

/-- IS_IDLE with bit 4 set. -/
theorem test_isIdle_reserved_refused : wordWellFormed 0x16#64 = false ∧ decode 0x16#64 = .error .reservedBit := by decide

/-! ## Words written out bit by bit from R50 -/

/-- BEGIN: `P = w[4] = 1`, opcode 0001. -/
theorem test_decode_begin : decode (0b10001#64) = .ok (.begin true) := by decide

/-- TICK: `L = w[4]`, opcode 0010. -/
theorem test_decode_tick : decode (0b10010#64) = .ok (.tick .high) ∧ decode (0b00010#64) = .ok (.tick .low) := by decide

/-- EDGE: `T = w[63:32] = 2^31 + 1`, 27 zeros, `L = w[4] = 1`, opcode 0011. -/
theorem test_decode_edge :
    decode (0b1000000000000000000000000000000100000000000000000000000000010011#64) = .ok (.edge .high 0x80000001#32) := by
  decide

/-- SEND: 16 zeros, `B3 = 00001000`, `B2 = 00000100`, `B1 = 00000010`, `B0 = 00000001`, `N = 00010000`, 0000, opcode 0100. -/
theorem test_decode_send :
    decode (0b0000000000000000000010000000010000000010000000010001000000000100#64) =
      .ok (.send 16#8 1#8 2#8 4#8 8#8) := by decide

/-- READ_RESPONSE: opcode 0101. -/
theorem test_decode_readResponse : decode (0b0101#64) = .ok .readResponse := by decide

/-- IS_IDLE: opcode 0110. -/
theorem test_decode_isIdle : decode (0b0110#64) = .ok .isIdle := by decide

/-! ## One step each -/

/-- A started block in a bus state, every other field as after BEGIN. -/
def inState (b : BusState) : State := { State.reset with started := true, st := b }

/-- The outcome is a next state of which the test holds. -/
def nextIs (o : Host.Outcome State Fault Refusal) (p : State → Bool) : Bool :=
  match o with
  | .next t => p t
  | .fault _ => false
  | .refused _ => false

/-- B2. -/
theorem test_begin_starts : nextIs (step (State.reset.withFetchWord 64 0x11)) (fun t =>
    t.started && t.pol && t.st == .idle && t.txLevel == .high && t.outputs == [.tickArm]) = true := by decide

/-- Each row of the opcode table, fields zero, is run as the first word placed after reset. -/
theorem test_rows_run_after_reset : ([0x1, 0x2, 0x3, 0x4, 0x5, 0x6].all fun w =>
    nextIs (step (State.reset.withFetchWord 64 w)) fun _ => true) = true := by decide

/-- B3 and B4: with no BEGIN before it, a word of the queue is refused. -/
theorem test_queue_before_begin_refused : step { State.reset with pending := [0x12#64] } = .refused .notStarted := rfl

/-- B5. -/
theorem test_begin_twice_refused : exec (.begin false) (inState .idle) = .refused .beginTwice := rfl

/-- V11. -/
theorem test_send_16 : nextIs (exec (.send 16#8 0xFF#8 0x90#8 0#8 0#8)
      { inState .idle with h := 33#8, rxErr := true, coll := true, idle := 9#8 }) (fun t =>
    t.result == some .sent && t.st == .txStart1st && t.txBuf == ⟨0xFF#8, 0x90#8, 0#8, 0#8⟩ && t.txLen == 16#8 && t.h == 0#8 &&
    !t.rxErr && !t.coll && t.idle == 9#8) = true := by decide

/-- V12: the 25-bit repack. -/
theorem test_send_25 : nextIs (exec (.send 25#8 0x12#8 0x34#8 0x56#8 0x77#8) (inState .idle)) (fun t =>
    t.txBuf == ⟨0x12#8, 0x34#8, 0xAB#8, 0x00#8⟩ && t.txLen == 25#8) = true := by decide

/-- T29: the pulldown test runs before the frame boundary. -/
theorem test_tick_pulldown_first : nextIs (exec (.tick .low) { inState .rxBit with idle := 3#8, h := 33#8, txLevel := .low })
    (fun t => t.st == .short && t.txLevel == .high && t.outputs == [.error .pulldown]) = true := by decide

/-- T26: the eight-bit frame. -/
theorem test_tick_delivers_8 : nextIs (exec (.tick .high) { inState .rxBit with idle := 3#8, h := 17#8, cmdAcc := 0x3C#32 })
    (fun t => t.st == .idle && t.outputs == [.frame 0x3C#8 0#8 0#8 8#8] && t.h == 17#8) = true := by decide

/-- E3: a collision on a `HIGH` edge. -/
theorem test_edge_collision : nextIs (exec (.edge .high 7#32) { inState .txBit1st with txLevel := .low }) (fun t =>
    t.st == .idle && t.coll && t.txLevel == .low && t.outputs == [.error .collision, .tickRestart, .activity]) = true := by
  decide

/-- M6 and M12: the half-bit that completes a response, over a wrapped timestamp. -/
theorem test_edge_completes_response : nextIs (exec (.edge .low 0xA1#32)
      { inState .rxBit with h := 15#8, rxResp := true, respAcc := 0x2D#16, lastTs := 0xFFFFFF00#32 }) (fun t =>
    t.h == 16#8 && t.respAcc == 0x5A#16 && t.st == .rxStop && t.outputs == []) = true := by decide

/-- Q2. -/
theorem test_read_value : nextIs (exec .readResponse { inState .idle with h := 16#8, respAcc := 0x01A5#16 }) (fun t =>
    t.result == some (.value 0xA5#8) && t.h == 0#8) = true := by decide

/-- Q4: the error mark wins. -/
theorem test_read_error_mark : nextIs (exec .readResponse { inState .idle with rxErr := true }) (fun t =>
    t.result == some .error && !t.rxErr) = true := by decide

/-- Q10. -/
theorem test_isIdle_true : nextIs (exec .isIdle (inState .idle)) (fun t => t.result == some (.idle true)) = true := by decide

/-- Q11. -/
theorem test_isIdle_false : nextIs (exec .isIdle (inState .short)) (fun t => t.result == some (.idle false)) = true := by
  decide

/-! ## Values that meet the hypotheses of the obligations, one theorem each -/

theorem test_witness_EncodeOfDecode : decode 0x5#64 = .ok .readResponse := by decide

theorem test_witness_StepRunsTheNextEvent :
    ({ State.reset with pending := [0x1#64] }.pending = 0x1#64 :: [] ∧ decode 0x1#64 = .ok (.begin false)) ∧
    decode 0xF#64 = .error .reservedOpcode ∧ decode 0x22#64 = .error .reservedBit ∧ State.reset.pending = [] ∧
    (inState .idle).started = true ∧ State.reset.started = false ∧ ∀ p, Instr.isIdle ≠ .begin p := by decide

theorem test_witness_EventsRefusedExactlyOutsideTheirPhase :
    exec .isIdle State.reset = .refused .notStarted ∧ ∀ p, Instr.isIdle ≠ .begin p := ⟨rfl, by decide⟩

theorem test_witness_BeginWritesEveryField : State.reset.started = false := by decide

theorem test_witness_PowerOnValuesUnobservable :
    let s' := { State.reset with st := BusState.short, idle := 7#8 }
    State.reset.started = false ∧ s'.started = false ∧ State.reset.pending = s'.pending ∧ State.reset.cfg = s'.cfg ∧
    State.reset.draws = s'.draws := by decide

theorem test_witness_SendRejectsOtherLengths :
    (inState .rxBit).started = true ∧ (255#8 : Byte) ≠ 16#8 ∧ (255#8 : Byte) ≠ 24#8 ∧ (255#8 : Byte) ≠ 25#8 := by decide

theorem test_witness_SendRejectsWhenBusy :
    (inState .short).started = true ∧ ((25#8 : Byte) = 16#8 ∨ (25#8 : Byte) = 24#8 ∨ (25#8 : Byte) = 25#8) ∧
    (inState .short).st ≠ .idle := by decide

theorem test_witness_SendLoadsTheFrame :
    (inState .idle).started = true ∧ (inState .idle).st = .idle ∧
    ((25#8 : Byte) = 16#8 ∨ (25#8 : Byte) = 24#8 ∨ (25#8 : Byte) = 25#8) := by decide

/-- The ends of the four parts of the wire order. -/
theorem test_witness_RepackedWireBits : ∀ i ∈ [0, 7, 8, 15, 16, 17, 24], i < 25 := by decide

/-- The bits of V12's frame. -/
def bits25 : List Bool :=
  [false, false, false, true, false, false, true, false, false, false, true, true, false, true, false, false] ++
  [true, false, true, false, true, false, true, true, false]

theorem test_witness_SendThenExtractIsIdentity :
    bits25.length = (25#8 : Byte).toNat ∧
    wireBits (loadFrame 25#8 0x12#8 0x34#8 0x56#8 0x77#8 State.reset.txBuf) bits25 := by
  unfold wireBits; decide

theorem test_witness_TickCountsQuietTicks : ∃ t, exec (.tick .high) { inState .txStop with idle := 3#8 } = .next t := ⟨_, rfl⟩

/-- T2: the least `idle` at which a stuck line is found, and one below it. -/
theorem test_witness_PulldownForcesShort :
    (inState .idle).started = true ∧ StuckLow .low { inState .idle with idle := 3#8 } ∧ ¬ StuckLow .low { inState .idle with idle := 2#8 } ∧
    StuckLow .low { inState .waitRx with idle := 255#8 } := by
  unfold StuckLow; decide

theorem test_witness_ErrorsRaisedExactlyByTheirCauses :
    nextIs (exec (.tick .low) { inState .idle with idle := 3#8 })
      (fun t => decide (Notification.error .pulldown ∈ t.outputs)) = true := by decide

/-- T6 and T7: both sides of the settling time. -/
theorem test_witness_StartBitWaitsForSettling :
    (inState .txStart1st).started = true ∧ (inState .txStart1st).st = .txStart1st ∧
    ¬ 26 ≤ (satInc8 24#8).toNat ∧ 26 ≤ (satInc8 25#8).toNat := by decide

theorem test_witness_StartBitSecondHalf : (inState .txStart2nd).started = true ∧ (inState .txStart2nd).st = .txStart2nd := by decide

/-- The last bit of the longest frame, in byte 3. -/
theorem test_witness_DataBitFirstHalf :
    let s := { inState .txBit1st with cursor := 24#8, txLen := 25#8, txBuf := ⟨1#8, 2#8, 3#8, 0x80#8⟩ }
    s.started = true ∧ s.st = .txBit1st ∧ s.cursor.toNat < s.txLen.toNat ∧
    [s.txBuf.b0, s.txBuf.b1, s.txBuf.b2, s.txBuf.b3][s.cursor.toNat / 8]? = some 0x80#8 := by decide

/-- T12 and T13: bits remain, and none does. -/
theorem test_witness_DataBitSecondHalf :
    (inState .txBit2nd).started = true ∧ (inState .txBit2nd).st = .txBit2nd ∧
    ((14#8 : BitVec 8) + 1#8).toNat < (16#8 : BitVec 8).toNat ∧ ¬ ((15#8 : BitVec 8) + 1#8).toNat < (16#8 : BitVec 8).toNat := by
  decide

/-- T16 and T17. -/
theorem test_witness_StopConditionThenResponseWindow :
    (inState .txStop1st).started = true ∧ (inState .txStop1st).st = .txStop1st ∧ (inState .txStop).st = .txStop ∧
    (satInc8 2#8).toNat = 3 ∧ (satInc8 3#8).toNat = 4 := by decide

/-- T18 and T19. -/
theorem test_witness_ResponseWindowTimesOut :
    (inState .waitRx).started = true ∧ (inState .waitRx).st = .waitRx ∧
    ¬ StuckLow .high { inState .waitRx with idle := 22#8 } ∧ ¬ StuckLow .low { inState .waitRx with idle := 2#8 } ∧
    ¬ 22 < (satInc8 21#8).toNat ∧ 22 < (satInc8 22#8).toNat := by
  unfold StuckLow; decide

/-- T21 and T22. -/
theorem test_witness_DrainTimesOut :
    (inState .rxStop).started = true ∧ (inState .rxStop).st = .rxStop ∧
    ¬ StuckLow .high { inState .rxStop with idle := 4#8 } ∧ ¬ 4 < (satInc8 3#8).toNat ∧ 4 < (satInc8 4#8).toNat := by
  unfold StuckLow; decide

/-- T23; T25; T26. -/
theorem test_witness_FrameBoundaryDelivers :
    (inState .rxStart).started = true ∧ (inState .rxStart).st = .rxStart ∧ (inState .rxBit).st = .rxBit ∧
    ¬ StuckLow .high { inState .rxStart with idle := 3#8 } ∧ (satInc8 2#8).toNat ≤ 3 ∧ 3 < (satInc8 3#8).toNat ∧
    (16#8 : BitVec 8).toNat ≤ 16 ∧ 16 < (17#8 : BitVec 8).toNat ∧
    { inState .rxBit with idle := 3#8, h := 17#8, cmdAcc := 0x3C#32 }.frameBytes = some (0x3C#8, 0#8, 0#8) := by
  unfold StuckLow; decide

/-- T3 and T30; E16 for the last clause. -/
theorem test_witness_TickInIdleAndShortOnlyCounts :
    (inState .short).started = true ∧ (inState .short).st = .short ∧
    (inState .idle).started = true ∧ (inState .idle).st = .idle ∧ ¬ StuckLow .high { inState .idle with idle := 7#8 } ∧
    StuckLow .low { inState .idle with idle := 3#8 } ∧
    nextIs (exec (.edge .high 6001#32) (inState .short)) (fun t => t.st != .short) = true := by
  unfold StuckLow; decide

/-- The half-bit counts at the ends of each clause. -/
theorem test_witness_ExtractionTable :
    State.reset.hWrapped = false ∧ (17#8 : BitVec 8).toNat / 2 = 8 ∧ (32#8 : BitVec 8).toNat / 2 = 16 ∧
    (33#8 : BitVec 8).toNat / 2 = 16 ∧ (48#8 : BitVec 8).toNat / 2 = 24 ∧ (49#8 : BitVec 8).toNat / 2 = 24 ∧
    (50#8 : BitVec 8).toNat / 2 = 25 ∧ (51#8 : BitVec 8).toNat / 2 = 25 := by decide

/-- A frame of 9 bits, one of 127, and a frame of 16 bits after a wrap; a cursor at the frame's end, and one past byte 3. -/
theorem test_witness_FreeValuesWhereNoRuleGivesOne :
    (inState .rxBit).started = true ∧ (inState .rxBit).st = .rxBit ∧
    ¬ StuckLow .high { inState .rxBit with idle := 3#8 } ∧ 3 < (satInc8 3#8).toNat ∧
    (16 < (18#8 : BitVec 8).toNat ∧ (18#8 : BitVec 8).toNat / 2 ∉ [8, 16, 24, 25]) ∧
    (16 < (255#8 : BitVec 8).toNat ∧ (255#8 : BitVec 8).toNat / 2 ∉ [8, 16, 24, 25]) ∧
    { inState .rxBit with idle := 3#8, h := 33#8, hWrapped := true }.hWrapped = true ∧
    (inState .txBit1st).st = .txBit1st ∧ ¬ StuckLow .high (inState .txBit1st) ∧ (inState .txBit1st).txLen.toNat ≤ (inState .txBit1st).cursor.toNat ∧
    32 ≤ { inState .txBit1st with cursor := 32#8, txLen := 33#8 }.cursor.toNat := by
  unfold StuckLow; decide

theorem test_witness_TickFrame : ∃ t, exec (.tick .low) { inState .idle with idle := 3#8 } = .next t := ⟨_, rfl⟩

/-- V12's frame at the end of its settling time; its TICKs alone, and with a self-feedback EDGE after the first. -/
def sending25 : State :=
  { inState .txStart1st with idle := 25#8, txLen := 25#8, txBuf := ⟨0x12#8, 0x34#8, 0xAB#8, 0#8⟩ }

theorem test_witness_TransmittedWaveform :
    sending25.started = true ∧ sending25.st = .txStart1st ∧ 26 ≤ (satInc8 sending25.idle).toNat ∧ bits25 ≠ [] ∧
    bits25.length = sending25.txLen.toNat ∧ wireBits sending25.txBuf bits25 ∧
    (tickLevels (.tick .high :: .edge .low 5#32 :: List.replicate 52 (.tick .low)) sending25).map List.length =
      some (2 * bits25.length + 3) := by
  unfold wireBits; decide

theorem test_witness_CollisionAbortsTheFrame :
    (inState .txStart1st).started = true ∧ isTx (inState .txStart1st).st = true ∧ Level.low ≠ (inState .txStart1st).txLevel ∧
    isTx (inState .txStop).st = true := by decide

theorem test_witness_SelfFeedbackIgnored :
    (inState .txStop).started = true ∧ isTx (inState .txStop).st = true ∧ Level.high = (inState .txStop).txLevel := by decide

theorem test_witness_ResponseWindowEdge :
    (inState .waitRx).started = true ∧ (inState .waitRx).st = .waitRx ∧ (inState .waitRx).Inv := by
  refine ⟨by decide, by decide, ?_⟩; constructor <;> decide

theorem test_witness_UnsolicitedCaptureStarts : (inState .idle).started = true ∧ (inState .idle).st = .idle := by decide

/-- Both bounds of the half window, and one past each. -/
theorem test_witness_StartBitValidated :
    (inState .rxStart).started = true ∧ (inState .rxStart).st = .rxStart ∧
    classify Config.reference 332#32 = .neither ∧ classify Config.reference 333#32 = .half ∧
    classify Config.reference 500#32 = .half ∧ classify Config.reference 501#32 = .neither := by decide

/-- At the greatest `h` below a wrap, and at the wrap. -/
theorem test_witness_DecoderHalfBitEdge :
    let s := { inState .rxBit with h := 255#8, lastTs := 0xFFFFFF00#32 }
    s.started = true ∧ s.st = .rxBit ∧ classify s.cfg (0xA1#32 - s.lastTs) = .half ∧ 256 ≤ s.h.toNat + 1 := by decide

theorem test_witness_DecoderFullBitEdge :
    let s := { inState .rxBit with h := 15#8, rxResp := true }
    s.started = true ∧ s.st = .rxBit ∧ classify s.cfg (667#32 - s.lastTs) = .full ∧
    classify s.cfg (1000#32 - s.lastTs) = .full ∧ 16 ≤ (s.h + 2#8).toNat := by decide

theorem test_witness_DecoderTimingFault :
    let s := inState .rxBit
    s.started = true ∧ s.st = .rxBit ∧ classify s.cfg (332#32 - s.lastTs) = .neither ∧
    classify s.cfg (501#32 - s.lastTs) = .neither ∧ classify s.cfg (666#32 - s.lastTs) = .neither ∧
    classify s.cfg (1001#32 - s.lastTs) = .neither := by decide

theorem test_witness_DrainAndShortEdges :
    (inState .rxStop).started = true ∧ (inState .rxStop).st = .rxStop ∧
    (inState .short).started = true ∧ (inState .short).st = .short := by decide

theorem test_witness_EveryDistanceInOneBucket : Config.reference.Ok := by decide

theorem test_witness_EdgeFrame : ∃ t, exec (.edge .low 5#32) (inState .idle) = .next t := ⟨_, rfl⟩

theorem test_witness_ActivityExactlyOnUnexplainedHigh :
    nextIs (exec (.edge .high 5#32) (inState .idle)) (fun t => decide (Notification.activity ∈ t.outputs)) = true := by decide

/-- The greatest `h` at which a half-bit edge does not wrap, and the greatest at which a full-bit edge does not. -/
theorem test_witness_ShiftsCountedByHalfBits :
    let s := { inState .rxBit with h := 254#8 }
    let u := { inState .rxBit with h := 253#8 }
    (s.started = true ∧ s.st = .rxBit ∧ classify s.cfg (500#32 - s.lastTs) = .half ∧ s.h.toNat + 1 < 256 ∧
      nextIs (exec (.edge .high 500#32) s) (fun t => t.h == 255#8) = true) ∧
    (u.started = true ∧ u.st = .rxBit ∧ classify u.cfg (667#32 - u.lastTs) = .full ∧ u.h.toNat + 2 < 256 ∧
      nextIs (exec (.edge .high 667#32) u) (fun t => t.h == 255#8) = true) := by decide

/-- The 16 data bits of 0xA55A. -/
def bits16 : List Bool :=
  [true, false, true, false, false, true, false, true, false, true, false, true, true, false, true, false]

/-- The eight data bits of 0x5A, the response of 95 P1 and, as a command, a frame of 17 half-bits. -/
def bits8 : List Bool := [false, true, false, true, true, false, true, false]

/-- Edges in given buckets at distances of 417 and 834 microseconds, one `LOW` TICK and one IS_IDLE before a half-bit edge, and
three TICKs of both levels and a SEND before a full-bit edge. -/
def arriving (want : List (Timing × Level)) : List Arrival :=
  want.map fun e =>
    if e.1 = .half then ⟨[.tick .low, .isIdle], 417#32, e.2⟩
    else ⟨[.tick .low, .tick .high, .send 16#8 1#8 2#8 0#8 0#8, .tick .low], 834#32, e.2⟩

set_option maxRecDepth 4096 in
/-- A command of 16 bits and one of 127; a response of 8 bits, and one that runs on past its eighth. -/
theorem test_witness_DecoderRecoversTheFrame :
    let s := inState .rxBit
    let u := { s with rxResp := true }
    let bits127 := List.replicate 127 false
    (s.started = true ∧ s.st = .rxBit ∧ s.h = 0#8 ∧ s.rxResp = false ∧ s.cmdAcc = 0#32 ∧
      timedAs s.cfg (arriving (frameEdges .high bits16)) (frameEdges .high bits16) ∧
      gapsQuiet s.idle.toNat (arriving (frameEdges .high bits16)) = true ∧ bits16.length ≤ 127 ∧
      timedAs s.cfg (arriving (frameEdges .high bits127)) (frameEdges .high bits127) ∧
      gapsQuiet s.idle.toNat (arriving (frameEdges .high bits127)) = true ∧ bits127.length ≤ 127) ∧
    (u.started = true ∧ u.st = .rxBit ∧ u.h = 0#8 ∧ u.rxResp = true ∧ u.respAcc = 0#16 ∧
      timedAs u.cfg (arriving (frameEdges .high bits8)) (frameEdges .high bits8) ∧
      gapsQuiet u.idle.toNat (arriving (frameEdges .high bits8)) = true) := by
  unfold timedAs; decide

/-- A command of 16 bits; and the shortest that is delivered, 8 bits that leave `h = 17`. -/
theorem test_witness_SnoopedCommandDelivered :
    let s := inState .idle
    let whole (bits : List Bool) := (Timing.half, Level.high) :: frameEdges .high bits
    (s.started = true ∧ s.st = .idle ∧ [Level.low, .high, .low].length = 3) ∧
    (timedAs s.cfg (arriving (whole bits16)) (whole bits16) ∧ gapsQuiet 0 (arriving (whole bits16)) = true ∧
      bits16.length ≤ 127 ∧ 16 < frameHalfBits bits16 ∧
      extractFrame (BitVec.ofNat 8 bits16.length) (BitVec.ofNat 32 (bitsValue bits16)) = some (0xA5#8, 0x5A#8, 0#8)) ∧
    (timedAs s.cfg (arriving (whole bits8)) (whole bits8) ∧ gapsQuiet 0 (arriving (whole bits8)) = true ∧
      bits8.length ≤ 127 ∧ frameHalfBits bits8 = 17 ∧
      extractFrame (BitVec.ofNat 8 bits8.length) (BitVec.ofNat 32 (bitsValue bits8)) = some (0x5A#8, 0#8, 0#8)) := by
  unfold timedAs; decide

theorem test_witness_ResponseReadExactlyOnce :
    let s := inState .waitRx
    let whole := (Timing.half, Level.high) :: frameEdges .high bits8
    s.started = true ∧ s.st = .waitRx ∧ timedAs s.cfg (arriving whole) whole ∧ gapsQuiet 0 (arriving whole) = true ∧
    bits8.length = 8 := by
  unfold timedAs; decide

theorem test_witness_OldFrameDeliveredAgain :
    let s := { inState .idle with h := 33#8, cmdAcc := 0xA55A#32 }
    s.started = true ∧ s.st = .idle ∧ 16 < s.h.toNat ∧ s.frameBytes = some (0xA5#8, 0x5A#8, 0#8) := by decide

theorem test_witness_ReadResponseReturnsAndClears : (inState .rxStop).started = true := by decide

/-- Between the two reads a `HIGH` EDGE in `IDLE`, and a `LOW` one that begins a capture. -/
theorem test_witness_SecondReadWithoutReceptionIsEmpty :
    ∃ t u v, exec .readResponse { inState .idle with h := 16#8 } = .next t ∧
      NoReception [.edge .high 5#32, .edge .low 9#32, .tick .low] t ∧
      execAll [.edge .high 5#32, .edge .low 9#32, .tick .low] t = .next u ∧ exec .readResponse u = .next v ∧
      ∃ w, exec .isIdle v = .next w := by
  refine ⟨_, _, _, rfl, ?_, rfl, rfl, _, rfl⟩
  refine ⟨fun _ => ⟨by decide, by decide⟩, fun t h => ?_⟩
  cases h
  refine ⟨fun _ => ⟨by decide, by decide⟩, fun t h => ?_⟩
  cases h
  exact ⟨fun h => by simp at h, fun _ _ => trivial⟩

theorem test_witness_IsIdleAnswersTheBusState : (inState .idle).started = true := by decide

theorem test_witness_StepKeepsInvariant : State.reset.Inv ∧ ∃ t, step (State.reset.withFetchWord 64 0x1) = .next t :=
  ⟨by constructor <;> decide, _, rfl⟩

/-- Self-feedback of the start bit, then a TICK that samples the line the block pulls low, then the 51 others of the frame. -/
theorem test_witness_undisturbed_frame :
    Undisturbed (.edge .low 5#32 :: .tick .low :: highTicks 51) { inState .txStart2nd with txLen := 25#8, txLevel := .low } ∧
    tickCount (.edge .low 5#32 :: .tick .low :: highTicks 51) = 2 * (25#8 : BitVec 8).toNat + 2 := by
  refine ⟨⟨.inr ⟨_, _, rfl, by decide⟩, fun t h => ?_⟩, by decide⟩
  cases h
  exact ⟨.inl ⟨_, rfl, .inr (by decide)⟩, fun _ _ => undisturbed_highTicks _ _⟩

/-- A state of each clause that meets its premises; the second clause's run is that of `test_witness_undisturbed_frame`. -/
theorem test_witness_QuietTicksReturnToIdle :
    ((inState .rxStart).Inv ∧ (inState .rxBit).Inv ∧ (inState .rxStop).Inv ∧ (inState .waitRx).Inv ∧ sending25.Inv ∧
      { inState .txStart2nd with txLen := 25#8, txLevel := .low }.Inv ∧
      { inState .txStop with txLen := 25#8, cursor := 25#8 }.Inv) ∧
    (inState .rxStart).started = true ∧ (inState .rxBit).started = true ∧ (inState .rxStop).started = true ∧
    (inState .waitRx).started = true ∧ sending25.started = true ∧ sending25.st = .txStart1st := by
  refine ⟨⟨?_, ?_, ?_, ?_, ?_, ?_, ?_⟩, by decide⟩ <;> constructor <;> decide

theorem test_witness_NotificationOrder :
    (∃ t, exec (.begin true) State.reset = .next t) ∧ ∃ t, exec (.edge .high 7#32) (inState .waitRx) = .next t :=
  ⟨⟨_, rfl⟩, _, rfl⟩

theorem test_witness_IdleFrom27Indistinguishable :
    let s := { inState .txStart1st with idle := 27#8 }
    27 ≤ s.idle.toNat ∧ 27 ≤ (255#8 : BitVec 8).toNat ∧ ∃ t, exec (.tick .high) s = .next t :=
  ⟨by decide, by decide, _, rfl⟩

theorem test_witness_LastTimestampUnobservableUntilWritten :
    (inState .idle).st ≠ .rxStart ∧ (inState .idle).st ≠ .rxBit ∧
    nextIs (exec (.edge .low 9#32) (inState .idle)) (fun t => t.st == .rxStart) = true := by decide

theorem test_witness_PlatformReceivesItsShare : State.reset.cfg.pinMap = PinMap.reference := by decide

end Sys2Proof.Tests
end

/-! PROOFS. Decoding gives back the event a word encodes, and a step runs the event of the word it takes off the queue. -/

namespace Sys2Proof

theorem encode_wellFormed (i : Instr) : wordWellFormed (encode i) = true := by
  cases i with
  | begin p => exact Laws.EncodeWellFormed.begin p
  | tick l => exact Laws.EncodeWellFormed.tick l
  | edge l t => exact Laws.EncodeWellFormed.edge l t
  | send n b0 b1 b2 b3 => exact Laws.EncodeWellFormed.send n b0 b1 b2 b3
  | readResponse => exact Laws.EncodeWellFormed.readResponse
  | isIdle => exact Laws.EncodeWellFormed.isIdle

theorem decode_of_wellFormed {w : EventWord} (h : wordWellFormed w = true) : decode w = .ok (fieldsOf w) := by
  obtain ⟨hop, hres⟩ : opcodeKnown w = true ∧ reservedZero w = true := by simpa [wordWellFormed] using h
  simp [decode, hop, hres]

theorem encode_edge_level (l : Level) (t : BitVec 32) : levelOfBit ((encode (.edge l t)).getLsbD 4) = l := by
  rw [encode_edge_getLsbD]
  cases l <;> rfl

theorem encode_edge_time (l : Level) (t : BitVec 32) : (encode (.edge l t)).extractLsb' 32 32 = t := by
  apply BitVec.eq_of_getLsbD_eq
  intro i hi
  rw [BitVec.getLsbD_extractLsb', encode_edge_getLsbD]
  grind

/-- The five byte fields of a SEND word (30_encoding.md R50). -/
theorem encode_send_fields (n b0 b1 b2 b3 : Byte) :
    (encode (.send n b0 b1 b2 b3)).extractLsb' 8 8 = n ∧ (encode (.send n b0 b1 b2 b3)).extractLsb' 16 8 = b0 ∧
    (encode (.send n b0 b1 b2 b3)).extractLsb' 24 8 = b1 ∧ (encode (.send n b0 b1 b2 b3)).extractLsb' 32 8 = b2 ∧
    (encode (.send n b0 b1 b2 b3)).extractLsb' 40 8 = b3 := by
  refine ⟨?_, ?_, ?_, ?_, ?_⟩ <;> apply BitVec.eq_of_getLsbD_eq <;> intro i hi <;>
    rw [BitVec.getLsbD_extractLsb', encode_send_getLsbD] <;> grind

/-- No operand of an event is lost in its word (R50, R51). -/
theorem fieldsOf_encode (i : Instr) : fieldsOf (encode i) = i := by
  cases i with
  | begin p => cases p <;> decide
  | tick l => cases l <;> decide
  | edge l t =>
    rw [fieldsOf, opcodeOf_encode_edge]
    exact congrArg₂ Instr.edge (encode_edge_level l t) (encode_edge_time l t)
  | send n b0 b1 b2 b3 => simp [fieldsOf, opcodeOf_encode_send, encode_send_fields]
  | readResponse => decide
  | isIdle => decide

@[simp] theorem decode_encode (i : Instr) : decode (encode i) = .ok i := by
  rw [decode_of_wellFormed (encode_wellFormed i), fieldsOf_encode]

end Sys2Proof

namespace Sys2Proof.Machine

open Sys2Proof

/-! ## A step, by what stands first on the queue -/

theorem step_of_pending_nil {s : State} (h : s.pending = []) : step s = .next s := by
  simp [step, State.takeWord, h]

theorem step_of_decode_ok {s : State} {w : EventWord} {rest : List EventWord} {i : Instr} (h : s.pending = w :: rest)
    (hw : decode w = .ok i) : step s = exec i { s with pending := rest } := by
  simp [step, State.takeWord, h, hw]

theorem step_of_decode_error {s : State} {w : EventWord} {rest : List EventWord} {e : DecodeError}
    (h : s.pending = w :: rest) (hw : decode w = .error e) : step s = .refused (refusalOf e) := by
  simp [step, State.takeWord, h, hw]

/-- All that a step which answers a next state can have done: nothing, with no word pending, or the event of the first
word, on the state with that word taken off the queue. -/
theorem step_eq_next {s t : State} (h : step s = .next t) :
    (s.pending = [] ∧ s = t) ∨
    ∃ w rest i, s.pending = w :: rest ∧ decode w = .ok i ∧ exec i { s with pending := rest } = .next t := by
  cases hp : s.pending with
  | nil => exact .inl ⟨rfl, by simpa [step_of_pending_nil hp] using h⟩
  | cons w rest =>
    cases hw : decode w with
    | error e => simp [step_of_decode_error hp hw] at h
    | ok i => exact .inr ⟨w, rest, i, rfl, hw, step_of_decode_ok hp hw ▸ h⟩

/-! ## What `withFetchWord` sets up (log entry 6) -/

theorem withFetchWord_encode (s : State) (i : Instr) :
    s.withFetchWord 64 (encode i).toNat = (s.readyFor i).putWord (encode i) := by
  have hword : wordOfTable 64 (encode i).toNat = encode i := by
    rw [wordOfTable, Nat.mod_eq_of_lt (encode i).isLt, BitVec.ofNat_toNat, BitVec.setWidth_eq]
  simp [State.withFetchWord, State.loadWord, hword]

theorem step_withFetchWord_encode (s : State) (i : Instr) :
    step (s.withFetchWord 64 (encode i).toNat) = exec i (s.readyFor i) := by
  rw [withFetchWord_encode]
  exact step_of_decode_ok rfl (decode_encode i)

theorem readyFor_of_ready {s : State} {i : Instr} (h : s.started = true ∨ ∃ p, i = .begin p) : s.readyFor i = s := by
  cases i <;> simp_all [State.readyFor]

theorem readyFor_of_unstarted {s : State} {i : Instr} (hs : s.started = false) (hi : ∀ p, i ≠ .begin p) :
    s.readyFor i = beginEvent false s := by
  cases i <;> simp_all [State.readyFor]

/-- Settles O7: each clause is the rule of `step` for what stands first on the queue; the words that `withFetchWord` places
are encodings, which decode to their events. -/
theorem stepRunsTheNextEvent : Obligations.StepRunsTheNextEvent := by
  intro s
  refine ⟨fun w rest i => step_of_decode_ok, fun w rest => step_of_decode_error, fun w rest => step_of_decode_error,
    step_of_pending_nil, fun i hi => ?_, fun i hs hi => ?_⟩
  · rw [step_withFetchWord_encode, readyFor_of_ready hi]
  · exact ⟨beginEvent false s, whenUnstarted_of_unstarted _ hs, by
      rw [step_withFetchWord_encode, readyFor_of_unstarted hs hi]⟩

end Sys2Proof.Machine

/-! PROOFS. The invariant of the block read bus state by bus state, and that every event keeps it. -/

namespace Sys2Proof.Machine

open Sys2Proof

/-! ## The invariant by bus state -/

/-- From an accepted SEND to a response's first edge nothing is latched (40_init_and_send.md R69, R93). -/
def State.LatchClear (s : State) : Prop := s.h = 0#8 ∧ s.rxErr = false ∧ s.hWrapped = false

/-- The block has a frame of a permitted length to send (10_state.md R31), and nothing is latched. -/
def State.FrameReady (s : State) : Prop :=
  (s.txLen = 16#8 ∨ s.txLen = 24#8 ∨ s.txLen = 25#8) ∧ s.LatchClear

/-- What the invariant asks of one bus state, beside the windows and the cursor's bound, which it asks of all. -/
def State.ClauseOf (s : State) : BusState → Prop
  | .idle => True
  | .txStart1st => s.FrameReady
  | .txStart2nd => s.FrameReady ∧ s.txLevel = .low
  | .txBit1st => s.FrameReady ∧ s.cursor < s.txLen
  | .txBit2nd => s.FrameReady ∧ s.cursor < s.txLen ∧ s.currentBit.map firstHalf = some s.txLevel
  | .txStop1st => s.FrameReady ∧ s.cursor = s.txLen
  | .txStop => s.FrameReady ∧ s.cursor = s.txLen ∧ s.txLevel = .high
  | .waitRx => s.LatchClear ∧ s.txLevel = .high
  | .rxStart => True
  | .rxBit => s.rxResp = true → s.h < 16#8
  | .rxStop => True
  | .short => s.txLevel = .high

/-- The invariant is the two bounds of every state and the clause of the bus state the block is in. -/
theorem inv_iff (s : State) : s.Inv ↔ s.cfg.Ok ∧ s.cursor ≤ 25#8 ∧ s.ClauseOf s.st := by
  constructor
  · rintro ⟨windows, sendLength, bitCursor, stopCursor, cursorBound, startDriven, bitDriven, stopDriven, latchClear,
      responseCount⟩
    refine ⟨windows, cursorBound, ?_⟩
    cases hst : s.st <;> simp_all [State.ClauseOf, State.FrameReady, State.LatchClear, isTx_iff]
  · rintro ⟨windows, cursorBound, clause⟩
    refine ⟨windows, ?_, ?_, ?_, cursorBound, ?_, ?_, ?_, ?_, ?_⟩ <;>
      cases hst : s.st <;> simp_all [State.ClauseOf, State.FrameReady, State.LatchClear, isTx_iff]

/-- The clause of the bus state that the block is known to be in. -/
theorem State.Inv.clause {s : State} {b : BusState} (hi : s.Inv) (hst : s.st = b) : s.ClauseOf b :=
  hst ▸ ((inv_iff s).1 hi).2.2

/-- An update that writes neither the configuration nor the cursor keeps the invariant where it meets the clause of the bus
state it leaves the block in. -/
theorem State.Inv.update {s t : State} (hi : s.Inv) (hcfg : t.cfg = s.cfg) (hcursor : t.cursor = s.cursor)
    (hclause : t.ClauseOf t.st) : t.Inv :=
  (inv_iff t).2 ⟨hcfg ▸ hi.windows, hcursor ▸ hi.cursorBound, hclause⟩

theorem State.FrameReady.txLen_bounds {s : State} (h : s.FrameReady) : 0#8 < s.txLen ∧ s.txLen ≤ 25#8 := by
  rcases h.1 with h | h | h <;> rw [h] <;> decide

/-! ## Updates of fields that the invariant does not read -/

theorem State.Inv.startEvent {s : State} (hi : s.Inv) : s.startEvent.Inv := { hi with }

theorem State.Inv.emit {s : State} (hi : s.Inv) (n : Notification) : (s.emit n).Inv := { hi with }

theorem State.Inv.returns {s : State} (hi : s.Inv) (r : Result) : (s.returns r).Inv := { hi with }

theorem State.Inv.countTick {s : State} (hi : s.Inv) : s.countTick.Inv := { hi with }

theorem State.Inv.noteEdge {s : State} (hi : s.Inv) (t : BitVec 32) : (s.noteEdge t).Inv := { hi with }

theorem State.Inv.withPending {s : State} (hi : s.Inv) (words : List EventWord) : { s with pending := words }.Inv :=
  { hi with }

/-- A delivery adds to the output, and may take free values. -/
theorem State.Inv.deliverFrame {s : State} (hi : s.Inv) : s.deliverFrame.Inv := by
  rcases deliverFrame_eq s with ⟨_, _, _, -, h⟩ | ⟨-, _, _, _, h⟩ <;> rw [h]
  · exact hi.emit _
  · exact { hi with }

/-! ## Updates that meet the invariant in every bus state -/

/-- `IDLE` has no clause of its own. -/
theorem State.Inv.gotoIdle {s : State} (hi : s.Inv) : (s.goto .idle).Inv := hi.update rfl rfl trivial

/-- Clearing the latch meets every clause that speaks of it. -/
theorem State.Inv.clearLatch {s : State} (hi : s.Inv) : s.clearLatch.Inv :=
  { hi with
    latchClear := fun _ => ⟨rfl, rfl, rfl⟩
    responseCount := fun _ _ => (by decide : 0#8 < 16#8) }

/-! ## BEGIN and SEND -/

theorem beginEvent_inv {s : State} (hi : s.Inv) (p : Bool) : (beginEvent p s).Inv :=
  (inv_iff _).2 ⟨hi.windows, by simp [beginEvent], trivial⟩

theorem sendAccept_inv {s : State} (hi : s.Inv) {n : Byte} (hn : sendLengthOk n = true) (b0 b1 b2 b3 : Byte) :
    (sendAccept n b0 b1 b2 b3 s).Inv :=
  hi.update rfl rfl ⟨(sendLengthOk_iff n).1 hn, rfl, rfl, rfl⟩

theorem sendEvent_inv {s : State} (hi : s.Inv) (n b0 b1 b2 b3 : Byte) : (sendEvent n b0 b1 b2 b3 s).Inv := by
  unfold sendEvent
  split
  · exact (hi.startEvent.emit _).returns _
  · next hn =>
    split
    · exact (hi.startEvent.emit _).returns _
    · exact sendAccept_inv hi.startEvent (by simpa using hn) b0 b1 b2 b3

/-! ## TICK: the stuck-low detector and the rows of the state table (41_tick.md R73 to R83) -/

theorem tickPulldown_inv {s : State} (hi : s.Inv) : (tickPulldown s).Inv := hi.update rfl rfl rfl

theorem tickTxStart1st_inv {s : State} (hi : s.Inv) (hst : s.st = .txStart1st) : (tickTxStart1st s).Inv := by
  unfold tickTxStart1st
  split
  · exact hi.update rfl rfl ⟨hi.clause hst, rfl⟩
  · exact hi

/-- The cursor starts at 0, inside a frame of any permitted length. -/
theorem tickTxStart2nd_inv {s : State} (hi : s.Inv) (hst : s.st = .txStart2nd) : (tickTxStart2nd s).Inv := by
  obtain ⟨hready, -⟩ := hi.clause hst
  exact (inv_iff _).2 ⟨hi.windows, by simp [tickTxStart2nd], hready, hready.txLen_bounds.1⟩

/-- The cursor is inside the frame, so the bit driven is one of the buffer and never a free one. -/
theorem tickTxBit1st_inv {s : State} (hi : s.Inv) (hst : s.st = .txBit1st) : (tickTxBit1st s).Inv := by
  obtain ⟨hready, hcursor⟩ := hi.clause hst
  have hbit : s.currentBit.isSome = true :=
    currentBit_isSome hcursor (BitVec.le_trans hready.txLen_bounds.2 (by decide))
  unfold tickTxBit1st
  split
  · next b hb => exact hi.update rfl rfl ⟨hready, hcursor, congrArg (Option.map firstHalf) hb⟩
  · next hb => simp [hb] at hbit

/-- The cursor was inside the frame, so one more is inside it still or is its length. -/
theorem tickTxBit2nd_inv {s : State} (hi : s.Inv) (hst : s.st = .txBit2nd) : (tickTxBit2nd s).Inv := by
  obtain ⟨hready, hcursor, -⟩ := hi.clause hst
  have hlen := hready.txLen_bounds.2
  have hbound : s.cursor + 1#8 ≤ 25#8 := by bv_omega
  simp only [tickTxBit2nd]
  split
  · next hmore => exact (inv_iff _).2 ⟨hi.windows, hbound, hready, hmore⟩
  · next hlast =>
    have hend : s.cursor + 1#8 = s.txLen := by simp only [drive_txLen] at hlast; bv_omega
    exact (inv_iff _).2 ⟨hi.windows, hbound, hready, hend⟩

theorem tickTxStop1st_inv {s : State} (hi : s.Inv) (hst : s.st = .txStop1st) : (tickTxStop1st s).Inv := by
  obtain ⟨hready, hcursor⟩ := hi.clause hst
  exact hi.update rfl rfl ⟨hready, hcursor, rfl⟩

theorem tickTxStop_inv {s : State} (hi : s.Inv) (hst : s.st = .txStop) : (tickTxStop s).Inv := by
  obtain ⟨⟨-, hlatch⟩, -, hlevel⟩ := hi.clause hst
  unfold tickTxStop
  split
  · exact hi.update rfl rfl ⟨hlatch, hlevel⟩
  · exact hi

theorem tickWaitRx_inv {s : State} (hi : s.Inv) : (tickWaitRx s).Inv := by
  unfold tickWaitRx
  split
  exacts [hi.gotoIdle, hi]

theorem tickRxStop_inv {s : State} (hi : s.Inv) : (tickRxStop s).Inv := by
  unfold tickRxStop
  split
  exacts [hi.gotoIdle, hi]

theorem tickRxEnd_inv {s : State} (hi : s.Inv) : (tickRxEnd s).Inv := by
  unfold tickRxEnd
  split
  · split
    exacts [hi.deliverFrame.gotoIdle, hi.gotoIdle]
  · exact hi

theorem tickTable_inv {s : State} (hi : s.Inv) : (tickTable s).Inv := by
  cases hst : s.st <;> simp only [tickTable, hst]
  case txStart1st => exact tickTxStart1st_inv hi hst
  case txStart2nd => exact tickTxStart2nd_inv hi hst
  case txBit1st => exact tickTxBit1st_inv hi hst
  case txBit2nd => exact tickTxBit2nd_inv hi hst
  case txStop1st => exact tickTxStop1st_inv hi hst
  case txStop => exact tickTxStop_inv hi hst
  case waitRx => exact tickWaitRx_inv hi
  case rxStart | rxBit => exact tickRxEnd_inv hi
  case rxStop => exact tickRxStop_inv hi
  case idle | short => exact hi

theorem tickEvent_inv {s : State} (hi : s.Inv) (l : Level) : (tickEvent l s).Inv := by
  unfold tickEvent tickRule
  split
  exacts [tickPulldown_inv hi.startEvent.countTick, tickTable_inv hi.startEvent.countTick]

/-! ## EDGE: the state rules (42_edge_collision.md R91, R92, 43_edge_receive.md R93 to R98) -/

theorem edgeTx_inv {s : State} (hi : s.Inv) (l : Level) : (edgeTx l s).Inv := by
  unfold edgeTx
  split
  · exact hi.update rfl rfl trivial
  · exact hi

theorem edgeWaitRx_inv {s : State} (hi : s.Inv) (l : Level) : (edgeWaitRx l s).Inv := by
  cases l <;> exact hi.update rfl rfl trivial

theorem edgeIdle_inv {s : State} (hi : s.Inv) (l : Level) : (edgeIdle l s).Inv := by
  cases l
  · exact hi.update rfl rfl trivial
  · exact hi

theorem edgeShort_inv {s : State} (hi : s.Inv) (l : Level) : (edgeShort l s).Inv := by
  cases l
  · exact hi
  · exact hi.gotoIdle

/-- A valid start bit begins its count at 0. -/
theorem edgeRxStart_inv {s : State} (hi : s.Inv) (l : Level) (d : BitVec 32) : (edgeRxStart l d s).Inv := by
  unfold edgeRxStart
  split
  · exact hi.update rfl rfl fun _ => (by decide : 0#8 < 16#8)
  · exact hi.update rfl rfl trivial

/-- All that the decoder can do to the bus state: it stays in `RX_BIT`, or an error leads to `RX_STOP`. -/
theorem decoderStep_st (l : Level) (d : BitVec 32) (s : State) :
    (decoderStep l d s).st = s.st ∨ (decoderStep l d s).st = .rxStop := by
  unfold decoderStep
  split
  · left; split <;> simp
  · left; simp
  · right; rfl

/-- After the end-of-response test a block in `RX_BIT` that is in response mode has `h` below 16. -/
theorem endResponse_clause {s : State} (hst : s.st = .rxBit ∨ s.st = .rxStop) :
    (endResponse s).ClauseOf (endResponse s).st := by
  unfold endResponse
  split
  · trivial
  · next hopen =>
    rcases hst with h | h
    · rw [h]
      intro hresp
      exact BitVec.not_le.1 (by simpa [responseComplete, h, hresp] using hopen : ¬ respHalfBits ≤ s.h)
    · rw [h]; trivial

theorem edgeRxBit_inv {s : State} (hi : s.Inv) (hst : s.st = .rxBit) (l : Level) (d : BitVec 32) :
    (edgeRxBit l d s).Inv := by
  obtain ⟨-, -, -, -, -, hcursor, -, -, -, -, hcfg, -⟩ := edgeRule_keeps l d s
  simp only [edgeRule, hst] at hcursor hcfg
  exact hi.update hcfg hcursor (endResponse_clause (hst ▸ decoderStep_st l d s))

theorem edgeRule_inv {s : State} (hi : s.Inv) (l : Level) (d : BitVec 32) : (edgeRule l d s).Inv := by
  cases hst : s.st <;> simp only [edgeRule, hst]
  case txStart1st | txStart2nd | txBit1st | txBit2nd | txStop1st | txStop => exact edgeTx_inv hi l
  case waitRx => exact edgeWaitRx_inv hi l
  case idle => exact edgeIdle_inv hi l
  case rxStart => exact edgeRxStart_inv hi l d
  case rxBit => exact edgeRxBit_inv hi hst l d
  case rxStop => exact hi
  case short => exact edgeShort_inv hi l

theorem edgeEvent_inv {s : State} (hi : s.Inv) (l : Level) (t : BitVec 32) : (edgeEvent l t s).Inv := by
  have hrule := edgeRule_inv (hi.startEvent.noteEdge t) l (s.delta t)
  simp only [edgeEvent]
  split
  exacts [hrule.emit _, hrule]

/-! ## Every event, and the step -/

theorem exec_inv {i : Instr} {s t : State} (hi : s.Inv) (h : exec i s = .next t) : t.Inv := by
  cases i with
  | begin p => obtain ⟨-, rfl⟩ := whenUnstarted_eq_next_iff.1 h; exact beginEvent_inv hi p
  | tick l => obtain ⟨-, rfl⟩ := whenStarted_eq_next_iff.1 h; exact tickEvent_inv hi l
  | edge l t => obtain ⟨-, rfl⟩ := whenStarted_eq_next_iff.1 h; exact edgeEvent_inv hi l t
  | send n b0 b1 b2 b3 => obtain ⟨-, rfl⟩ := whenStarted_eq_next_iff.1 h; exact sendEvent_inv hi n b0 b1 b2 b3
  | readResponse => obtain ⟨-, rfl⟩ := whenStarted_eq_next_iff.1 h; exact hi.startEvent.clearLatch.returns _
  | isIdle => obtain ⟨-, rfl⟩ := whenStarted_eq_next_iff.1 h; exact hi.startEvent.returns _

/-- Settles O52: a step performs nothing or the event of the word it takes off the queue, and every event keeps the
invariant. -/
theorem stepKeepsInvariant : Obligations.StepKeepsInvariant := by
  intro s t hi h
  obtain ⟨-, rfl⟩ | ⟨_, rest, _, -, -, hexec⟩ := step_eq_next h
  · exact hi
  · exact exec_inv (hi.withPending rest) hexec

end Sys2Proof.Machine

/-! PROOFS. The numbers of the codes, and the bit that an EDGE of the decoder shifts in. -/

namespace Sys2Proof.Machine

open Sys2Proof

/-! ## Codes (10_state.md R17, 30_encoding.md R56 to R58) -/

/-- Joined fields as a number: the upper one counts in multiples of `2 ^ n`. -/
theorem append_toNat {m n : Nat} (a : BitVec m) (b : BitVec n) : (a ++ b).toNat = a.toNat * 2 ^ n + b.toNat := by
  rw [BitVec.toNat_append, ← Nat.shiftLeft_add_eq_or_of_lt b.isLt, Nat.shiftLeft_eq]

theorem value_code_toNat (v : Byte) : (Result.value v).code.toNat = v.toNat := by
  simp only [Result.code, append_toNat, BitVec.toNat_ofNat]
  omega

theorem error_code_toNat (k : ErrorKind) : (Notification.error k).code.toNat = 1 + 16 * k.code.toNat := by
  simp only [Notification.code, append_toNat, BitVec.toNat_ofNat]
  omega

theorem frame_code_toNat (b0 b1 b2 : Byte) (len : BitVec 8) :
    (Notification.frame b0 b1 b2 len).code.toNat =
      2 + 2 ^ 8 * len.toNat + 2 ^ 16 * b0.toNat + 2 ^ 24 * b1.toNat + 2 ^ 32 * b2.toNat := by
  simp only [Notification.code, append_toNat, BitVec.toNat_ofNat]
  omega

/-- Settles O6: the numbers without operands are those of the tables, and a word with operands is the sum of its fields at
their places. -/
theorem codesFollowTheTables : Obligations.CodesFollowTheTables :=
  ⟨rfl, rfl, rfl, value_code_toNat, error_code_toNat, frame_code_toNat, rfl, rfl, rfl⟩

/-! ## The decoder's EDGE (43_edge_receive.md R96, R100) -/

/-- The value of the accumulator of one mode: of the response where `resp`, else of the command (10_state.md R32, R33). -/
def State.accValue (resp : Bool) (s : State) : Nat := if resp then s.respAcc.toNat else s.cmdAcc.toNat

/-- The number of values that the accumulator of one mode can hold. -/
def accRoom (resp : Bool) : Nat := if resp then 2 ^ 16 else 2 ^ 32

/-- A shift puts its level at the end of the active accumulator. -/
theorem shiftIn_accValue (l : Level) (s : State) :
    (s.shiftIn l).accValue s.rxResp = (2 * s.accValue s.rxResp + (bitOfLevel l).toNat) % accRoom s.rxResp := by
  cases h : s.rxResp
  · simp only [State.accValue, accRoom, shiftIn_cmdAcc, h, Bool.false_eq_true, if_false, shiftBit_toNat]
  · simp only [State.accValue, accRoom, shiftIn_respAcc, h, if_true, shiftBit_toNat]

/-- The half-bit counter, where it does not wrap. -/
theorem addHalfBits_h_toNat {s : State} {k : BitVec 8} (h : s.h.toNat + k.toNat < 256) :
    (s.addHalfBits k).h.toNat = s.h.toNat + k.toNat := by
  rw [addHalfBits_h, BitVec.toNat_add, Nat.mod_eq_of_lt h]

/-- From `s` to `t` one bit of the level is shifted in and `h div 2` counts it (10_state.md R29). -/
def ShiftedOne (l : Level) (s t : State) : Prop :=
  t.h.toNat / 2 = s.h.toNat / 2 + 1 ∧
    t.accValue s.rxResp = (2 * s.accValue s.rxResp + (bitOfLevel l).toNat) % accRoom s.rxResp

/-- From `s` to `t` nothing is shifted in, and `h div 2` stays. -/
def ShiftedNone (s t : State) : Prop :=
  t.h.toNat / 2 = s.h.toNat / 2 ∧ t.accValue s.rxResp = s.accValue s.rxResp

/-- A half-bit edge completes a bit where `h` is odd, so that one more makes it even. -/
theorem decoderStep_half {l : Level} {d : BitVec 32} {s : State} (hd : classify s.cfg d = .half)
    (hwrap : s.h.toNat + 1 < 256) :
    ShiftedOne l s (decoderStep l d s) ∨ ShiftedNone s (decoderStep l d s) := by
  simp only [decoderStep, hd]
  split
  · next hodd =>
    have hcount : ((s.shiftIn l).addHalfBits 1#8).h.toNat = s.h.toNat + 1 := by
      rw [addHalfBits_h_toNat, shiftIn_h] <;> simp [hwrap]
    have := (halfBitOdd_iff s).1 hodd
    exact .inl ⟨by omega, shiftIn_accValue l s⟩
  · next heven =>
    have hcount : (s.addHalfBits 1#8).h.toNat = s.h.toNat + 1 := addHalfBits_h_toNat hwrap
    have := mt (halfBitOdd_iff s).2 heven
    exact .inr ⟨by omega, rfl⟩

/-- A full-bit edge completes a bit at either parity of `h`. -/
theorem decoderStep_full {l : Level} {d : BitVec 32} {s : State} (hd : classify s.cfg d = .full)
    (hwrap : s.h.toNat + 2 < 256) : ShiftedOne l s (decoderStep l d s) := by
  simp only [decoderStep, hd]
  have hcount : ((s.shiftIn l).addHalfBits 2#8).h.toNat = s.h.toNat + 2 := by
    rw [addHalfBits_h_toNat, shiftIn_h] <;> simp [hwrap]
  exact ⟨by omega, shiftIn_accValue l s⟩

/-- The end-of-response test and `Activity` leave the counter and the accumulators as the decoder's step makes them. -/
theorem edgeEvent_keeps_decoderStep {s : State} (hst : s.st = .rxBit) (l : Level) (ts : BitVec 32) :
    (edgeEvent l ts s).h = (decoderStep l (s.delta ts) (edged ts s)).h ∧
    (edgeEvent l ts s).respAcc = (decoderStep l (s.delta ts) (edged ts s)).respAcc ∧
    (edgeEvent l ts s).cmdAcc = (decoderStep l (s.delta ts) (edged ts s)).cmdAcc := by
  have hrule : edgeRule l (s.delta ts) (s.startEvent.noteEdge ts) = endResponse (decoderStep l (s.delta ts) (edged ts s)) := by
    simp only [edgeRule, noteEdge_st, startEvent_st, hst]
    rfl
  simp only [edgeEvent, hrule, endResponse]
  refine ⟨?_, ?_, ?_⟩ <;> split <;> split <;> rfl

/-- Settles O43, by the decoder's two buckets: a half-bit edge shifts at odd `h` only, a full-bit edge always. -/
theorem shiftsCountedByHalfBits : Obligations.ShiftsCountedByHalfBits := by
  intro l ts s t _ hst hbucket hwrap hexec
  obtain ⟨-, rfl⟩ := whenStarted_eq_next_iff.1 hexec
  have hstep : ShiftedOne l s (decoderStep l (s.delta ts) (edged ts s)) ∨
      ShiftedNone s (decoderStep l (s.delta ts) (edged ts s)) := by
    cases hd : classify s.cfg (ts - s.lastTs) with
    | half => exact decoderStep_half (s := edged ts s) hd (by rwa [hd] at hwrap)
    | full => exact .inl (decoderStep_full (s := edged ts s) hd (by rwa [hd] at hwrap))
    | neither => exact absurd hd hbucket
  obtain ⟨hh, hresp, hcmd⟩ := edgeEvent_keeps_decoderStep hst l ts
  rw [hh, hresp, hcmd]
  exact hstep

end Sys2Proof.Machine

/-! PROOFS. What no event reads of the record: the collision flag, the polarity, the last timestamp outside a reception, and
the value of `idle` from 27 up. -/

namespace Sys2Proof.Machine

open Sys2Proof

/-! ## Other values in four fields (10_state.md R22, R26, R27, R34)

An event that reads none of four fields, and does not write them, gives the same whether their values are mapped before it or
after it. -/

/-- The state with the values of `coll`, `pol`, `lastTs` and `idle` mapped. -/
def State.mapUnread (fc fp : Bool → Bool) (fx : BitVec 32 → BitVec 32) (fi : BitVec 8 → BitVec 8) (s : State) : State :=
  { s with coll := fc s.coll, pol := fp s.pol, lastTs := fx s.lastTs, idle := fi s.idle }

/-- Two values of `idle` that no test of a TICK tells apart (41_tick.md R73 to R82). -/
structure SameIdleTests (j k : BitVec 8) : Prop where
  pulldown : pulldownTicks ≤ k ↔ pulldownTicks ≤ j
  settle : settleTicks ≤ k ↔ settleTicks ≤ j
  txStop : txStopTicks ≤ k ↔ txStopTicks ≤ j
  waitRx : waitRxTicks < k ↔ waitRxTicks < j
  rxStop : rxStopTicks < k ↔ rxStopTicks < j
  rxEnd : rxEndTicks < k ↔ rxEndTicks < j

theorem SameIdleTests.refl (k : BitVec 8) : SameIdleTests k k := ⟨.rfl, .rfl, .rfl, .rfl, .rfl, .rfl⟩

/-- From 27 up every test holds (10_state.md R26). -/
theorem sameIdleTests_of_late {j k : BitVec 8} (hj : 27 ≤ j.toNat) (hk : 27 ≤ k.toNat) : SameIdleTests j k := by
  constructor <;>
    simp only [pulldownTicks, settleTicks, txStopTicks, waitRxTicks, rxStopTicks, rxEndTicks, BitVec.le_def, BitVec.lt_def,
      BitVec.toNat_ofNat] <;>
    omega

section
variable (fc fp : Bool → Bool) (fx : BitVec 32 → BitVec 32) (fi : BitVec 8 → BitVec 8) (s : State)

/-! ## TICK -/

theorem tickTxBit1st_mapUnread : tickTxBit1st (s.mapUnread fc fp fx fi) = (tickTxBit1st s).mapUnread fc fp fx fi := by
  have hbit : (s.mapUnread fc fp fx fi).currentBit = s.currentBit := rfl
  simp only [tickTxBit1st, hbit]
  split <;> rfl

theorem tickTxBit2nd_mapUnread : tickTxBit2nd (s.mapUnread fc fp fx fi) = (tickTxBit2nd s).mapUnread fc fp fx fi := by
  simp only [tickTxBit2nd, apply_ite (State.mapUnread fc fp fx fi)]
  rfl

theorem deliverFrame_mapUnread : (s.mapUnread fc fp fx fi).deliverFrame = s.deliverFrame.mapUnread fc fp fx fi := by
  have hbytes : (s.mapUnread fc fp fx fi).frameBytes = s.frameBytes := rfl
  simp only [State.deliverFrame, hbytes]
  split <;> rfl

variable {fi s}

theorem tickRxEnd_mapUnread (hi : SameIdleTests s.idle (fi s.idle)) :
    tickRxEnd (s.mapUnread fc fp fx fi) = (tickRxEnd s).mapUnread fc fp fx fi := by
  simp only [tickRxEnd, deliverFrame_mapUnread, apply_ite (State.goto .idle), apply_ite (State.mapUnread fc fp fx fi), ← hi.rxEnd]
  rfl

theorem tickRxEnd_idle : (tickRxEnd s).idle = s.idle := by
  unfold tickRxEnd State.deliverFrame
  repeat' split
  all_goals rfl

/-- The state table, where the tests cannot tell the two values of `idle` apart: only the end of the stop condition writes one
of the four fields, and it resets `idle`. -/
theorem tickTable_mapUnread (hi : SameIdleTests s.idle (fi s.idle)) :
    (tickTable (s.mapUnread fc fp fx fi) = (tickTable s).mapUnread fc fp fx fi ∧ (tickTable s).idle = s.idle) ∨
      tickTable (s.mapUnread fc fp fx fi) = (tickTable s).mapUnread fc fp fx id := by
  have hst : (s.mapUnread fc fp fx fi).st = s.st := rfl
  have hidle : (s.mapUnread fc fp fx fi).idle = fi s.idle := rfl
  simp only [tickTable, hst]
  cases s.st
  case txStop =>
    simp only [tickTxStop, hidle, hi.txStop]
    split
    exacts [.inr rfl, .inl ⟨rfl, rfl⟩]
  case txStart1st =>
    simp only [tickTxStart1st, hidle, hi.settle]
    split <;> exact .inl ⟨rfl, rfl⟩
  case waitRx =>
    simp only [tickWaitRx, hidle, hi.waitRx]
    split <;> exact .inl ⟨rfl, rfl⟩
  case rxStop =>
    simp only [tickRxStop, hidle, hi.rxStop]
    split <;> exact .inl ⟨rfl, rfl⟩
  case txBit1st =>
    refine .inl ⟨tickTxBit1st_mapUnread fc fp fx fi s, ?_⟩
    simp only [tickTxBit1st]
    split <;> rfl
  case txBit2nd =>
    refine .inl ⟨tickTxBit2nd_mapUnread fc fp fx fi s, ?_⟩
    simp only [tickTxBit2nd]
    split <;> rfl
  case rxStart | rxBit => exact .inl ⟨tickRxEnd_mapUnread fc fp fx hi, tickRxEnd_idle⟩
  case txStart2nd | txStop1st | idle | short => exact .inl ⟨rfl, rfl⟩

theorem tickRule_mapUnread (l : Level) (hi : SameIdleTests s.idle (fi s.idle)) :
    (tickRule l (s.mapUnread fc fp fx fi) = (tickRule l s).mapUnread fc fp fx fi ∧ (tickRule l s).idle = s.idle) ∨
      tickRule l (s.mapUnread fc fp fx fi) = (tickRule l s).mapUnread fc fp fx id := by
  have hfires : pulldownFires l (s.mapUnread fc fp fx fi) = pulldownFires l s :=
    congrArg (!isTx s.st && s.st != .short && l == .low && ·) (decide_eq_decide.2 hi.pulldown)
  simp only [tickRule, hfires]
  split
  exacts [.inl ⟨rfl, rfl⟩, tickTable_mapUnread fc fp fx hi]

variable (s)

/-- A TICK reads none of `coll`, `pol` and `lastTs`. -/
theorem tickEvent_mapUnread (l : Level) :
    tickEvent l (s.mapUnread fc fp fx id) = (tickEvent l s).mapUnread fc fp fx id := by
  rcases tickRule_mapUnread fc fp fx (fi := id) l (.refl s.startEvent.countTick.idle) with ⟨h, -⟩ | h <;> exact h

/-! ## SEND -/

variable (fi)

/-- A SEND reads none of the four fields, and an accepted one clears the collision flag (40_init_and_send.md R69). -/
theorem sendEvent_mapUnread (n b0 b1 b2 b3 : Byte) :
    sendEvent n b0 b1 b2 b3 (s.mapUnread fc fp fx fi) = (sendEvent n b0 b1 b2 b3 s).mapUnread fc fp fx fi ∨
      sendEvent n b0 b1 b2 b3 (s.mapUnread fc fp fx fi) = (sendEvent n b0 b1 b2 b3 s).mapUnread id fp fx fi := by
  have hst : (s.mapUnread fc fp fx fi).st = s.st := rfl
  simp only [sendEvent, hst]
  split
  · exact .inl rfl
  · split
    exacts [.inl rfl, .inr rfl]

/-! ## EDGE -/

theorem decoderStep_mapUnread (l : Level) (d : BitVec 32) :
    decoderStep l d (s.mapUnread fc fp fx fi) = (decoderStep l d s).mapUnread fc fp fx fi := by
  have hshift : (s.mapUnread fc fp fx fi).shiftIn l = (s.shiftIn l).mapUnread fc fp fx fi := by
    simp only [State.shiftIn, apply_ite (State.mapUnread fc fp fx fi)]
    rfl
  have hcfg : (s.mapUnread fc fp fx fi).cfg = s.cfg := rfl
  have hodd : halfBitOdd (s.mapUnread fc fp fx fi) = halfBitOdd s := rfl
  simp only [decoderStep, hshift, hcfg, hodd]
  split
  · split <;> rfl
  · rfl
  · rfl

/-- A state rule of EDGE, the distance given, reads none of the four fields, and a collision sets its flag
(42_edge_collision.md R91). -/
theorem edgeRule_mapUnread (l : Level) (d : BitVec 32) :
    edgeRule l d (s.mapUnread fc fp fx fi) = (edgeRule l d s).mapUnread fc fp fx fi ∨
      edgeRule l d (s.mapUnread fc fp fx fi) = (edgeRule l d s).mapUnread id fp fx fi := by
  have hst : (s.mapUnread fc fp fx fi).st = s.st := rfl
  simp only [edgeRule, hst]
  cases s.st
  case txStart1st | txStart2nd | txBit1st | txBit2nd | txStop1st | txStop =>
    have hlevel : (s.mapUnread fc fp fx fi).txLevel = s.txLevel := rfl
    simp only [edgeTx, hlevel]
    split
    exacts [.inr rfl, .inl rfl]
  case rxStart =>
    have hcfg : (s.mapUnread fc fp fx fi).cfg = s.cfg := rfl
    simp only [edgeRxStart, hcfg]
    split <;> exact .inl rfl
  case rxBit =>
    refine .inl ?_
    simp only [edgeRxBit, endResponse, decoderStep_mapUnread, apply_ite (State.mapUnread fc fp fx fi)]
    rfl
  case waitRx | idle | short => cases l <;> exact .inl rfl
  case rxStop => exact .inl rfl

/-- An EDGE reads neither `coll` nor `pol`. -/
theorem edgeEvent_mapUnread (l : Level) (ts : BitVec 32) :
    edgeEvent l ts (s.mapUnread fc fp id id) = (edgeEvent l ts s).mapUnread fc fp id id ∨
      edgeEvent l ts (s.mapUnread fc fp id id) = (edgeEvent l ts s).mapUnread id fp id id := by
  have hactivity : activityFires l (s.mapUnread fc fp id id) = activityFires l s := rfl
  have hrule := edgeRule_mapUnread fc fp id id (s.startEvent.noteEdge ts) l (s.delta ts)
  simp only [edgeEvent, hactivity]
  split
  · exact hrule.imp (congrArg (State.emit .activity)) (congrArg (State.emit .activity))
  · exact hrule

end

/-! ## Outcomes that agree after a function -/

/-- Where the block has started in both states or in neither, and the next states agree after a function, so do the outcomes. -/
theorem mapNext_whenStarted_congr {f : State → State} {s s' n n' : State} (hs : s'.started = s.started) (h : f n' = f n) :
    mapNext f (whenStarted s' n') = mapNext f (whenStarted s n) := by
  simp only [whenStarted, hs]
  split
  · exact congrArg Host.Outcome.next h
  · rfl

/-- The state with `coll` and `pol` forgotten. -/
def State.forgetCollPol (s : State) : State := s.mapUnread (fun _ => false) (fun _ => false) id id

@[simp] theorem forgetCollPol_mapUnread (fc fp : Bool → Bool) (s : State) :
    (s.mapUnread fc fp id id).forgetCollPol = s.forgetCollPol := rfl

/-- Settles O56: an event maps other values of the two fields to other values of them, or has written the flag. -/
theorem collisionFlagAndPolarityNeverRead : Obligations.CollisionFlagAndPolarityNeverRead := by
  intro i s c p
  show mapNext State.forgetCollPol (exec i (s.mapUnread (fun _ => c) (fun _ => p) id id)) =
    mapNext State.forgetCollPol (exec i s)
  cases i with
  | begin q => rfl
  | tick l => exact mapNext_whenStarted_congr rfl (by rw [tickEvent_mapUnread, forgetCollPol_mapUnread])
  | edge l ts =>
    refine mapNext_whenStarted_congr rfl ?_
    rcases edgeEvent_mapUnread (fun _ => c) (fun _ => p) s l ts with h | h <;> rw [h, forgetCollPol_mapUnread]
  | send n b0 b1 b2 b3 =>
    refine mapNext_whenStarted_congr rfl ?_
    rcases sendEvent_mapUnread (fun _ => c) (fun _ => p) id id s n b0 b1 b2 b3 with h | h <;>
      rw [h, forgetCollPol_mapUnread]
  | readResponse => exact mapNext_whenStarted_congr rfl rfl
  | isIdle => exact mapNext_whenStarted_congr rfl rfl

/-! ## Values of `idle` from 27 up (10_state.md R26) -/

/-- Two states that differ at most in values of `idle` of 27 or more. -/
def AgreeButLateIdle (t u : State) : Prop :=
  { u with idle := t.idle } = t ∧ (u.idle = t.idle ∨ (27 ≤ u.idle.toNat ∧ 27 ≤ t.idle.toNat))

theorem AgreeButLateIdle.refl (t : State) : AgreeButLateIdle t t := ⟨rfl, .inl rfl⟩

theorem agreeButLateIdle_mapUnread {t : State} {k : BitVec 8} (ht : 27 ≤ t.idle.toNat) (hk : 27 ≤ k.toNat) :
    AgreeButLateIdle t (t.mapUnread id id id fun _ => k) := ⟨rfl, .inr ⟨hk, ht⟩⟩

theorem sendEvent_idle (n b0 b1 b2 b3 : Byte) (s : State) : (sendEvent n b0 b1 b2 b3 s).idle = s.idle := by
  unfold sendEvent
  repeat' split
  all_goals rfl

theorem satInc8_late {v : BitVec 8} (h : 27 ≤ v.toNat) : 27 ≤ (satInc8 v).toNat := by
  rw [satInc8_toNat]
  omega

/-- A TICK counts two late values to late values, and its tests tell neither apart. -/
theorem tickEvent_lateIdle {s : State} {k : BitVec 8} (hs : 27 ≤ s.idle.toNat) (hk : 27 ≤ k.toNat) (l : Level) :
    AgreeButLateIdle (tickEvent l s) (tickEvent l { s with idle := k }) := by
  have hs' : 27 ≤ s.startEvent.countTick.idle.toNat := satInc8_late hs
  have hk' : 27 ≤ (satInc8 k).toNat := satInc8_late hk
  have hcount : tickEvent l { s with idle := k } =
      tickRule l (s.startEvent.countTick.mapUnread id id id fun _ => satInc8 k) := rfl
  rw [hcount]
  rcases tickRule_mapUnread id id id l (fi := fun _ => satInc8 k) (sameIdleTests_of_late hs' hk') with ⟨h, hidle⟩ | h
  · rw [h]
    exact agreeButLateIdle_mapUnread (hidle ▸ hs') hk'
  · rw [h]
    exact .refl _

/-- Settles O57: BEGIN and EDGE write `idle`, a TICK cannot tell late values apart, and the other events do not read it. -/
theorem idleFrom27Indistinguishable : Obligations.IdleFrom27Indistinguishable := by
  intro i s t k hs hk h
  show ∃ u, exec i { s with idle := k } = .next u ∧ AgreeButLateIdle t u
  cases i with
  | begin p => exact ⟨t, h, .refl t⟩
  | edge l ts => exact ⟨t, h, .refl t⟩
  | tick l =>
    obtain ⟨hstarted, rfl⟩ := whenStarted_eq_next_iff.1 h
    exact ⟨_, whenStarted_of_started _ hstarted, tickEvent_lateIdle hs hk l⟩
  | send n b0 b1 b2 b3 =>
    obtain ⟨hstarted, rfl⟩ := whenStarted_eq_next_iff.1 h
    have hsend : sendEvent n b0 b1 b2 b3 { s with idle := k } = (sendEvent n b0 b1 b2 b3 s).mapUnread id id id fun _ => k :=
      (or_self_iff.1 (sendEvent_mapUnread id id id (fun _ => k) s n b0 b1 b2 b3) :)
    refine ⟨_, whenStarted_of_started _ hstarted, ?_⟩
    rw [hsend]
    exact agreeButLateIdle_mapUnread (by rwa [sendEvent_idle]) hk
  | readResponse =>
    obtain ⟨hstarted, rfl⟩ := whenStarted_eq_next_iff.1 h
    exact ⟨_, whenStarted_of_started _ hstarted, agreeButLateIdle_mapUnread hs hk⟩
  | isIdle =>
    obtain ⟨hstarted, rfl⟩ := whenStarted_eq_next_iff.1 h
    exact ⟨_, whenStarted_of_started _ hstarted, agreeButLateIdle_mapUnread hs hk⟩

/-! ## The last timestamp (10_state.md R27) -/

/-- A reception is under way: the two bus states whose rules of EDGE read the distance (43_edge_receive.md R95, R96). -/
def Receiving (b : BusState) : Prop := b = .rxStart ∨ b = .rxBit

theorem edgeRule_of_not_receiving {s : State} (hst : ¬ Receiving s.st) (l : Level) (d d' : BitVec 32) :
    edgeRule l d s = edgeRule l d' s := by
  cases h : s.st <;> simp only [edgeRule, h]
  case rxStart => exact absurd (.inl h) hst
  case rxBit => exact absurd (.inr h) hst

/-- Outside a reception an EDGE overwrites the last timestamp and does not read it. -/
theorem edgeEvent_lastTs_irrelevant {s : State} (hst : ¬ Receiving s.st) (l : Level) (ts x : BitVec 32) :
    edgeEvent l ts { s with lastTs := x } = edgeEvent l ts s := by
  have hrule : edgeRule l (ts - x) ({ s with lastTs := x }.startEvent.noteEdge ts) =
      edgeRule l (ts - s.lastTs) (s.startEvent.noteEdge ts) :=
    edgeRule_of_not_receiving (s := s.startEvent.noteEdge ts) hst l _ _
  simp only [edgeEvent, State.delta, hrule]
  rfl

/-- The state with `lastTs` forgotten. -/
def State.forgetLastTs (s : State) : State := s.mapUnread id id (fun _ => 0#32) id

@[simp] theorem forgetLastTs_mapUnread (fx : BitVec 32 → BitVec 32) (s : State) :
    (s.mapUnread id id fx id).forgetLastTs = s.forgetLastTs := rfl

/-- Outside a reception other values of `lastTs` lead to other values of it at most. -/
theorem exec_lastTs_unread {s : State} (hst : ¬ Receiving s.st) (i : Instr) (x : BitVec 32) :
    mapNext State.forgetLastTs (exec i (s.mapUnread id id (fun _ => x) id)) = mapNext State.forgetLastTs (exec i s) := by
  cases i with
  | begin p => rfl
  | tick l => exact mapNext_whenStarted_congr rfl (by rw [tickEvent_mapUnread, forgetLastTs_mapUnread])
  | edge l ts => exact mapNext_whenStarted_congr rfl (congrArg _ (edgeEvent_lastTs_irrelevant hst l ts x))
  | send n b0 b1 b2 b3 =>
    have hsend := or_self_iff.1 (sendEvent_mapUnread id id (fun _ => x) id s n b0 b1 b2 b3)
    exact mapNext_whenStarted_congr rfl (by rw [hsend, forgetLastTs_mapUnread])
  | readResponse => exact mapNext_whenStarted_congr rfl rfl
  | isIdle => exact mapNext_whenStarted_congr rfl rfl

/-! ## How a reception begins -/

/-- A row of the state table stays in its bus state, or leads to one outside a reception. -/
theorem tickTable_st (s : State) : (tickTable s).st = s.st ∨ ¬ Receiving (tickTable s).st := by
  cases hst : s.st <;> simp only [tickTable, hst]
  case txStart1st => unfold tickTxStart1st; split <;> simp [hst, Receiving]
  case txStart2nd => simp [tickTxStart2nd, Receiving]
  case txBit1st => unfold tickTxBit1st; split <;> simp [Receiving]
  case txBit2nd => simp only [tickTxBit2nd]; split <;> simp [Receiving]
  case txStop1st => simp [tickTxStop1st, Receiving]
  case txStop => unfold tickTxStop; split <;> simp [hst, Receiving]
  case waitRx => unfold tickWaitRx; split <;> simp [hst, Receiving]
  case rxStop => unfold tickRxStop; split <;> simp [hst, Receiving]
  case rxStart | rxBit => unfold tickRxEnd; split <;> simp [hst, Receiving]
  case idle | short => exact .inl trivial

/-- A TICK begins no reception. -/
theorem receiving_of_tickEvent {l : Level} {s : State} (h : Receiving (tickEvent l s).st) : Receiving s.st := by
  unfold tickEvent tickRule at h
  split at h
  · simp [tickPulldown, Receiving] at h
  · exact (tickTable_st s.startEvent.countTick).elim (fun hst => hst ▸ h) (absurd h)

/-- A SEND begins no reception. -/
theorem receiving_of_sendEvent {n b0 b1 b2 b3 : Byte} {s : State} (h : Receiving (sendEvent n b0 b1 b2 b3 s).st) :
    Receiving s.st := by
  unfold sendEvent at h
  split at h
  · exact h
  · split at h
    · exact h
    · simp [sendAccept, Receiving] at h

@[simp] theorem edgeEvent_lastTs (l : Level) (ts : BitVec 32) (s : State) : (edgeEvent l ts s).lastTs = ts := by
  obtain ⟨-, -, hlast, -⟩ := edgeRule_keeps l (s.delta ts) (s.startEvent.noteEdge ts)
  simp only [edgeEvent]
  split <;> exact hlast

/-- An event after which a reception is under way found it so, or is an EDGE that has written its time. -/
theorem receiving_of_exec {i : Instr} {s t : State} (h : exec i s = .next t) (ht : Receiving t.st) :
    Receiving s.st ∨ ∃ l, i = .edge l t.lastTs := by
  cases i with
  | begin p =>
    obtain ⟨-, rfl⟩ := whenUnstarted_eq_next_iff.1 h
    simp [beginEvent, Receiving] at ht
  | tick l =>
    obtain ⟨-, rfl⟩ := whenStarted_eq_next_iff.1 h
    exact .inl (receiving_of_tickEvent ht)
  | edge l ts =>
    obtain ⟨-, rfl⟩ := whenStarted_eq_next_iff.1 h
    exact .inr ⟨l, by rw [edgeEvent_lastTs]⟩
  | send n b0 b1 b2 b3 =>
    obtain ⟨-, rfl⟩ := whenStarted_eq_next_iff.1 h
    exact .inl (receiving_of_sendEvent ht)
  | readResponse =>
    obtain ⟨-, rfl⟩ := whenStarted_eq_next_iff.1 h
    exact .inl ht
  | isIdle =>
    obtain ⟨-, rfl⟩ := whenStarted_eq_next_iff.1 h
    exact .inl ht

/-- Settles O58: outside a reception no event reads `lastTs` and an EDGE writes it, and only an EDGE begins a reception. -/
theorem lastTimestampUnobservableUntilWritten : Obligations.LastTimestampUnobservableUntilWritten := by
  refine ⟨fun i s x hstart hbit => ?_, fun i s t => receiving_of_exec⟩
  have hst : ¬ Receiving s.st := not_or.2 ⟨hstart, hbit⟩
  refine ⟨exec_lastTs_unread hst i x, ?_⟩
  rintro l ts rfl
  exact congrArg (whenStarted s) (edgeEvent_lastTs_irrelevant hst l ts x)

end Sys2Proof.Machine

/-! PROOFS. A clear latch stays clear until a reception writes it, so a response is read once. -/

namespace Sys2Proof.Machine

open Sys2Proof

/-! ## What leaves the latch alone (20_memory.md R44) -/

/-- The two states agree on the fields that READ_RESPONSE clears (44_response_retrieval.md R103). -/
def SameLatch (s t : State) : Prop := t.h = s.h ∧ t.rxErr = s.rxErr ∧ t.hWrapped = s.hWrapped

theorem SameLatch.refl (s : State) : SameLatch s s := ⟨rfl, rfl, rfl⟩

theorem SameLatch.latchClear {s t : State} (h : SameLatch s t) (hs : s.LatchClear) : t.LatchClear := by
  obtain ⟨hh, herr, hwrap⟩ := h
  rwa [State.LatchClear, hh, herr, hwrap]

/-- A TICK writes no field of the latch, in no bus state (41_tick.md R71). -/
theorem tickEvent_sameLatch (l : Level) (s : State) : SameLatch s (tickEvent l s) := by
  unfold tickEvent tickRule
  split
  · exact ⟨rfl, rfl, rfl⟩
  · obtain ⟨-, -, -, -, -, -, herr, hh, -, -, -, -, -, -, hwrap⟩ := tickTable_keeps s.startEvent.countTick
    exact ⟨hh, herr, hwrap⟩

theorem edgeTx_sameLatch (l : Level) (s : State) : SameLatch s (edgeTx l s) := by
  unfold edgeTx
  split <;> exact ⟨rfl, rfl, rfl⟩

/-- Only the start bit and the decoder write the latch (43_edge_receive.md R95, R96). -/
theorem edgeRule_sameLatch {s : State} (hst : ¬ Receiving s.st) (l : Level) (d : BitVec 32) :
    SameLatch s (edgeRule l d s) := by
  cases h : s.st <;> simp only [edgeRule, h]
  case txStart1st | txStart2nd | txBit1st | txBit2nd | txStop1st | txStop => exact edgeTx_sameLatch l s
  case waitRx | idle | short => cases l <;> exact ⟨rfl, rfl, rfl⟩
  case rxStop => exact .refl s
  case rxStart => exact absurd (.inl h) hst
  case rxBit => exact absurd (.inr h) hst

theorem edgeEvent_sameLatch {s : State} (hst : ¬ Receiving s.st) (l : Level) (ts : BitVec 32) :
    SameLatch s (edgeEvent l ts s) := by
  have hrule : SameLatch s (edgeRule l (s.delta ts) (s.startEvent.noteEdge ts)) :=
    edgeRule_sameLatch (s := s.startEvent.noteEdge ts) hst l _
  simp only [edgeEvent]
  split <;> exact hrule

/-! ## A clear latch along a run -/

/-- A rejected SEND leaves the latch, and an accepted one clears it (40_init_and_send.md R67 to R69). -/
theorem sendEvent_latchClear {s : State} (hs : s.LatchClear) (n b0 b1 b2 b3 : Byte) :
    (sendEvent n b0 b1 b2 b3 s).LatchClear := by
  unfold sendEvent
  split
  · exact hs
  · split
    · exact hs
    · exact ⟨rfl, rfl, rfl⟩

theorem readEvent_latchClear (s : State) : (readEvent s).LatchClear := ⟨rfl, rfl, rfl⟩

/-- An event that is no EDGE of a reception keeps a clear latch clear. -/
theorem exec_latchClear {i : Instr} {s t : State} (hs : s.LatchClear)
    (hedge : (∃ l ts, i = .edge l ts) → ¬ Receiving s.st) (h : exec i s = .next t) : t.LatchClear := by
  cases i with
  | begin p => obtain ⟨-, rfl⟩ := whenUnstarted_eq_next_iff.1 h; exact ⟨rfl, rfl, rfl⟩
  | tick l => obtain ⟨-, rfl⟩ := whenStarted_eq_next_iff.1 h; exact (tickEvent_sameLatch l s).latchClear hs
  | edge l ts =>
    obtain ⟨-, rfl⟩ := whenStarted_eq_next_iff.1 h
    exact (edgeEvent_sameLatch (hedge ⟨l, ts, rfl⟩) l ts).latchClear hs
  | send n b0 b1 b2 b3 => obtain ⟨-, rfl⟩ := whenStarted_eq_next_iff.1 h; exact sendEvent_latchClear hs n b0 b1 b2 b3
  | readResponse => obtain ⟨-, rfl⟩ := whenStarted_eq_next_iff.1 h; exact readEvent_latchClear s
  | isIdle => obtain ⟨-, rfl⟩ := whenStarted_eq_next_iff.1 h; exact hs

theorem execAll_latchClear {is : List Instr} {s t : State} (hs : s.LatchClear) (hquiet : NoReception is s)
    (h : execAll is s = .next t) : t.LatchClear := by
  induction is generalizing s with
  | nil => cases h; exact hs
  | cons i is ih =>
    obtain ⟨hedge, hrest⟩ := hquiet
    cases hi : exec i s with
    | next u =>
      have hu : u.LatchClear := exec_latchClear hs (fun he => not_or.2 (hedge he)) hi
      exact ih hu (hrest u hi) (execAll_cons_of_next hi is ▸ h)
    | fault r => exact r.casesOn
    | refused r => simp [execAll, hi] at h

/-! ## What the two queries answer -/

theorem latchedResponse_of_latchClear {s : State} (hs : s.LatchClear) : latchedResponse s = .empty := by
  obtain ⟨hh, herr, -⟩ := hs
  simp [latchedResponse, hh, herr, respHalfBits]

/-- Settles O49: the first read clears the latch, the run keeps it clear, and a clear latch reads EMPTY; IS_IDLE writes its
answer alone, which does not depend on the answer before it. -/
theorem secondReadWithoutReceptionIsEmpty : Obligations.SecondReadWithoutReceptionIsEmpty := by
  refine ⟨fun is s t u v hfirst hquiet hrun hsecond => ?_, fun s t h => ?_⟩
  · obtain ⟨-, rfl⟩ := whenStarted_eq_next_iff.1 hfirst
    obtain ⟨-, rfl⟩ := whenStarted_eq_next_iff.1 hsecond
    have hclear : u.LatchClear := execAll_latchClear (readEvent_latchClear s) hquiet hrun
    exact congrArg some (latchedResponse_of_latchClear hclear)
  · obtain ⟨hstarted, rfl⟩ := whenStarted_eq_next_iff.1 h
    exact ⟨rfl, whenStarted_of_started _ hstarted⟩

end Sys2Proof.Machine

/-! PROOFS. A word and its event: each event has one word, the opcode table's rows are the words that spell events, and the
lines of a trace are those words. -/

namespace Sys2Proof

/-- Settles O1: no operand of an event is lost in its word, and every such word passes both checks of R53. -/
theorem decodeOfEncode : Obligations.DecodeOfEncode := decode_encode

/-! ## Which words decode -/

theorem decode_eq_ok_iff {w : EventWord} {i : Instr} :
    decode w = .ok i ↔ wordWellFormed w = true ∧ fieldsOf w = i := by
  unfold decode wordWellFormed
  cases opcodeKnown w <;> cases reservedZero w <;> simp

theorem exists_decode_eq_ok_iff {w : EventWord} : (∃ i, decode w = .ok i) ↔ wordWellFormed w = true := by
  simp [decode_eq_ok_iff]

theorem opcodeKnown_iff {w : EventWord} :
    opcodeKnown w = true ↔ opcodeOf w = 1#4 ∨ opcodeOf w = 2#4 ∨ opcodeOf w = 3#4 ∨ opcodeOf w = 4#4 ∨
      opcodeOf w = 5#4 ∨ opcodeOf w = 6#4 := by
  unfold opcodeKnown
  generalize opcodeOf w = op
  decide +revert

/-! ## The rows of the opcode table, by mask and match -/

/-- The word meets the mask and match of the row of an opcode: the mask covers the opcode and the reserved bits. -/
def MeetsRow (op : BitVec 4) (w : EventWord) : Prop := w &&& (reservedMask op ||| 0xF#64) = op.setWidth 64

theorem opcodeOf_and (v w : EventWord) : opcodeOf (v &&& w) = opcodeOf v &&& opcodeOf w := BitVec.extractLsb'_and

theorem opcodeOf_setWidth (op : BitVec 4) : opcodeOf (op.setWidth 64) = op := by decide +revert

/-- The four lowest bits of a word are its opcode. -/
theorem and_opcodeMask (w : EventWord) : w &&& 0xF#64 = (opcodeOf w).setWidth 64 := by
  rw [show 0xF#64 = (BitVec.allOnes 4).setWidth 64 from rfl]
  apply BitVec.eq_of_getLsbD_eq
  intro i hi
  rw [BitVec.getLsbD_and, BitVec.getLsbD_setWidth, BitVec.getLsbD_allOnes]
  simp [opcodeOf, hi, Bool.and_comm]

/-- Meeting a row is having its opcode and zero in its reserved bits, since no reserved bit is a bit of the opcode. -/
theorem meetsRow_iff {op : BitVec 4} {w : EventWord} : MeetsRow op w ↔ opcodeOf w = op ∧ reservedZero w = true := by
  have hopcode : opcodeOf (reservedMask op ||| 0xF#64) = BitVec.allOnes 4 := by decide +revert
  have hdisjoint : op.setWidth 64 &&& reservedMask op = 0#64 := by decide +revert
  have habsorb : (reservedMask op ||| 0xF#64) &&& reservedMask op = reservedMask op := by decide +revert
  constructor
  · intro h
    have hop : opcodeOf w = op := by
      calc
        opcodeOf w = opcodeOf (w &&& (reservedMask op ||| 0xF#64)) := by rw [opcodeOf_and, hopcode, BitVec.and_allOnes]
        _ = opcodeOf (op.setWidth 64) := congrArg opcodeOf h
        _ = op := opcodeOf_setWidth op
    have hzero : w &&& reservedMask op = 0#64 := by
      calc
        w &&& reservedMask op = w &&& (reservedMask op ||| 0xF#64) &&& reservedMask op := by
          rw [BitVec.and_assoc, habsorb]
        _ = op.setWidth 64 &&& reservedMask op := congrArg (· &&& reservedMask op) h
        _ = 0#64 := hdisjoint
    exact ⟨hop, by rw [reservedZero, hop, hzero, beq_self_eq_true]⟩
  · rintro ⟨rfl, hzero⟩
    rw [MeetsRow, BitVec.and_or_distrib_left, eq_of_beq hzero, BitVec.zero_or, and_opcodeMask]

/-- The words that spell events, row by row (R50, R53). -/
theorem wordWellFormed_iff_meetsRow {w : EventWord} :
    wordWellFormed w = true ↔ MeetsRow 1#4 w ∨ MeetsRow 2#4 w ∨ MeetsRow 3#4 w ∨ MeetsRow 4#4 w ∨ MeetsRow 5#4 w ∨
      MeetsRow 6#4 w := by
  simp only [wordWellFormed, Bool.and_eq_true, opcodeKnown_iff, or_and_right, meetsRow_iff]

/-- The row of a word with no fields admits that word alone. -/
theorem meetsRow_iff_eq {op : BitVec 4} (hmask : reservedMask op ||| 0xF#64 = BitVec.allOnes 64) {w : EventWord} :
    MeetsRow op w ↔ w = op.setWidth 64 := by
  rw [MeetsRow, hmask, BitVec.and_allOnes]

/-- Settles O3: the masks and matches of the statement are those of the six rows, and the rows of READ_RESPONSE and IS_IDLE
leave no bit free. -/
theorem reservedWordsSpellNoEvent : Obligations.ReservedWordsSpellNoEvent := by
  intro w
  rw [exists_decode_eq_ok_iff, wordWellFormed_iff_meetsRow, meetsRow_iff_eq (op := 5#4) (by decide),
    meetsRow_iff_eq (op := 6#4) (by decide)]
  exact Iff.rfl

/-! ## The fields of a word, by its opcode (R50) -/

/-- The opcode of an event (R50). -/
def Instr.opcode : Instr → BitVec 4
  | .begin _ => 1#4
  | .tick _ => 2#4
  | .edge _ _ => 3#4
  | .send _ _ _ _ _ => 4#4
  | .readResponse => 5#4
  | .isIdle => 6#4

theorem fieldsOf_of_begin {w : EventWord} (h : opcodeOf w = 1#4) : fieldsOf w = .begin (w.getLsbD 4) := by
  simp [fieldsOf, h]

theorem fieldsOf_of_tick {w : EventWord} (h : opcodeOf w = 2#4) : fieldsOf w = .tick (levelOfBit (w.getLsbD 4)) := by
  simp [fieldsOf, h]

theorem fieldsOf_of_edge {w : EventWord} (h : opcodeOf w = 3#4) :
    fieldsOf w = .edge (levelOfBit (w.getLsbD 4)) (w.extractLsb' 32 32) := by
  simp [fieldsOf, h]

theorem fieldsOf_of_send {w : EventWord} (h : opcodeOf w = 4#4) :
    fieldsOf w = .send (w.extractLsb' 8 8) (w.extractLsb' 16 8) (w.extractLsb' 24 8) (w.extractLsb' 32 8)
      (w.extractLsb' 40 8) := by
  simp [fieldsOf, h]

theorem fieldsOf_of_readResponse {w : EventWord} (h : opcodeOf w = 5#4) : fieldsOf w = .readResponse := by
  simp [fieldsOf, h]

theorem fieldsOf_of_isIdle {w : EventWord} (h : opcodeOf w = 6#4) : fieldsOf w = .isIdle := by
  simp [fieldsOf, h]

theorem opcode_fieldsOf {w : EventWord} (h : opcodeKnown w = true) : (fieldsOf w).opcode = opcodeOf w := by
  rcases opcodeKnown_iff.1 h with hop | hop | hop | hop | hop | hop
  · rw [fieldsOf_of_begin hop, hop, Instr.opcode]
  · rw [fieldsOf_of_tick hop, hop, Instr.opcode]
  · rw [fieldsOf_of_edge hop, hop, Instr.opcode]
  · rw [fieldsOf_of_send hop, hop, Instr.opcode]
  · rw [fieldsOf_of_readResponse hop, hop, Instr.opcode]
  · rw [fieldsOf_of_isIdle hop, hop, Instr.opcode]

/-! ## The bits above the opcode that a row leaves to its fields (R50) -/

theorem eq_four_of_free_flag {op : BitVec 4} (hop : op = 1#4 ∨ op = 2#4) {i : Nat} (hhi : i < 64) (hlo : 4 ≤ i)
    (h : (reservedMask op).getLsbD i = false) : i = 4 := by
  rcases hop with rfl | rfl <;> decide +revert

theorem level_or_time_of_free_edge {i : Nat} (hhi : i < 64) (hlo : 4 ≤ i) (h : (reservedMask 3#4).getLsbD i = false) :
    i = 4 ∨ 32 ≤ i := by decide +revert

theorem payload_of_free_send {i : Nat} (hhi : i < 64) (hlo : 4 ≤ i) (h : (reservedMask 4#4).getLsbD i = false) :
    8 ≤ i ∧ i < 48 := by decide +revert

theorem reserved_of_query {op : BitVec 4} (hop : op = 5#4 ∨ op = 6#4) {i : Nat} (hhi : i < 64) (hlo : 4 ≤ i) :
    (reservedMask op).getLsbD i ≠ false := by
  rcases hop with rfl | rfl <;> decide +revert

/-! ## Each event has one word -/

theorem levelOfBit_injective : Function.Injective levelOfBit := by decide

/-- Words that agree on a field agree on each of its bits. -/
theorem getLsbD_eq_of_extractLsb'_eq {v w : EventWord} {start len i : Nat}
    (h : v.extractLsb' start len = w.extractLsb' start len) (hlo : start ≤ i) (hhi : i < start + len) :
    v.getLsbD i = w.getLsbD i := by
  have hbit : (v.extractLsb' start len).getLsbD (i - start) = (w.extractLsb' start len).getLsbD (i - start) := by rw [h]
  have hi : i - start < len := by omega
  simpa [BitVec.getLsbD_extractLsb', hi, Nat.add_sub_cancel' hlo] using hbit

/-- A reserved bit of a word that decodes is zero. -/
theorem getLsbD_eq_false_of_reserved {w : EventWord} (h : reservedZero w = true) {i : Nat}
    (hi : (reservedMask (opcodeOf w)).getLsbD i = true) : w.getLsbD i = false := by
  have hbit := congrArg (BitVec.getLsbD · i) (eq_of_beq h)
  simpa [hi] using hbit

/-- Two words with equal opcodes and equal events agree on every bit that is neither of the opcode nor reserved: each stands
in a field (R50). -/
theorem getLsbD_eq_of_fieldsOf_eq {v w : EventWord} {i : Nat} (hknown : opcodeKnown w = true)
    (hop : opcodeOf v = opcodeOf w) (h : fieldsOf v = fieldsOf w) (hlo : 4 ≤ i) (hhi : i < 64)
    (hfree : (reservedMask (opcodeOf w)).getLsbD i = false) : v.getLsbD i = w.getLsbD i := by
  rcases opcodeKnown_iff.1 hknown with hw | hw | hw | hw | hw | hw <;> rw [hw] at hop hfree
  · rw [fieldsOf_of_begin hop, fieldsOf_of_begin hw] at h
    rw [eq_four_of_free_flag (.inl rfl) hhi hlo hfree]
    exact Instr.begin.inj h
  · rw [fieldsOf_of_tick hop, fieldsOf_of_tick hw] at h
    rw [eq_four_of_free_flag (.inr rfl) hhi hlo hfree]
    exact levelOfBit_injective (Instr.tick.inj h)
  · rw [fieldsOf_of_edge hop, fieldsOf_of_edge hw] at h
    obtain ⟨hlevel, htime⟩ := Instr.edge.inj h
    rcases level_or_time_of_free_edge hhi hlo hfree with rfl | hi
    · exact levelOfBit_injective hlevel
    · exact getLsbD_eq_of_extractLsb'_eq htime hi hhi
  · rw [fieldsOf_of_send hop, fieldsOf_of_send hw] at h
    obtain ⟨hn, hb0, hb1, hb2, hb3⟩ := Instr.send.inj h
    obtain ⟨hfirst, hlast⟩ := payload_of_free_send hhi hlo hfree
    obtain hi | ⟨hge, hi⟩ | ⟨hge, hi⟩ | ⟨hge, hi⟩ | hge :
        i < 8 + 8 ∨ 16 ≤ i ∧ i < 16 + 8 ∨ 24 ≤ i ∧ i < 24 + 8 ∨ 32 ≤ i ∧ i < 32 + 8 ∨ 40 ≤ i := by omega
    · exact getLsbD_eq_of_extractLsb'_eq hn hfirst hi
    · exact getLsbD_eq_of_extractLsb'_eq hb0 hge hi
    · exact getLsbD_eq_of_extractLsb'_eq hb1 hge hi
    · exact getLsbD_eq_of_extractLsb'_eq hb2 hge hi
    · exact getLsbD_eq_of_extractLsb'_eq hb3 hge hlast
  · exact absurd hfree (reserved_of_query (.inl rfl) hhi hlo)
  · exact absurd hfree (reserved_of_query (.inr rfl) hhi hlo)

/-- A word that decodes is known from its event: the opcode is the event's, the fields are its operands, and every other bit
is zero. -/
theorem eq_of_fieldsOf_eq {v w : EventWord} (hv : wordWellFormed v = true) (hw : wordWellFormed w = true)
    (h : fieldsOf v = fieldsOf w) : v = w := by
  obtain ⟨hvknown, hvzero⟩ := Bool.and_eq_true_iff.1 hv
  obtain ⟨hwknown, hwzero⟩ := Bool.and_eq_true_iff.1 hw
  have hop : opcodeOf v = opcodeOf w := by rw [← opcode_fieldsOf hvknown, h, opcode_fieldsOf hwknown]
  apply BitVec.eq_of_getLsbD_eq
  intro i hhi
  by_cases hlo : 4 ≤ i
  · cases hbit : (reservedMask (opcodeOf w)).getLsbD i with
    | true => rw [getLsbD_eq_false_of_reserved hvzero (hop ▸ hbit), getLsbD_eq_false_of_reserved hwzero hbit]
    | false => exact getLsbD_eq_of_fieldsOf_eq hwknown hop h hlo hhi hbit
  · exact getLsbD_eq_of_extractLsb'_eq hop (Nat.zero_le i) (by omega)

/-- Settles O2: the word and the encoding of its event decode to one event, so they are one word. -/
theorem encodeOfDecode : Obligations.EncodeOfDecode := by
  intro w i h
  obtain ⟨hw, rfl⟩ := decode_eq_ok_iff.1 h
  exact eq_of_fieldsOf_eq (encode_wellFormed _) hw (fieldsOf_encode _)

/-! ## The lines and macros of a trace (R61, R62) -/

theorem traceBegin_eq_encode (p : Bool) : traceBegin p = encode (.begin p) := by cases p <;> decide

theorem traceTick_eq_encode (l : Level) : traceTick l = encode (.tick l) := by cases l <;> decide

/-- The constants of `edge T hi` and `edge T lo` are the level's bit above the opcode. -/
theorem traceEdge_eq_or (t : BitVec 32) (l : Level) :
    traceEdge t l = t.setWidth 64 <<< 32 ||| ((bitOfLevel l).setWidth 64 <<< 4 ||| (3#4).setWidth 64) := by
  cases l <;> rfl

theorem traceEdge_eq_encode (t : BitVec 32) (l : Level) : traceEdge t l = encode (.edge l t) := by
  apply BitVec.eq_of_getLsbD_eq
  intro i hi
  rw [encode_edge_getLsbD, traceEdge_eq_or]
  simp only [BitVec.getLsbD_or, BitVec.getLsbD_shiftLeft, BitVec.getLsbD_setWidth]
  grind

theorem traceSend_eq_encode (n b0 b1 b2 b3 : Byte) : traceSend n b0 b1 b2 b3 = encode (.send n b0 b1 b2 b3) := by
  apply BitVec.eq_of_getLsbD_eq
  intro i hi
  rw [encode_send_getLsbD, traceSend, show 0x4#64 = (4#4).setWidth 64 from rfl]
  simp only [BitVec.getLsbD_or, BitVec.getLsbD_shiftLeft, BitVec.getLsbD_setWidth]
  grind

/-- Settles O5: a macro of R62 expands to lines of R61, and each line writes the fields where R50 places them. -/
theorem traceSyntaxSpellsEncodings : Obligations.TraceSyntaxSpellsEncodings :=
  ⟨traceBegin_eq_encode, traceTick_eq_encode, traceEdge_eq_encode, traceSend_eq_encode, rfl, rfl,
    fun _ _ => traceSend_eq_encode .., fun _ _ _ => traceSend_eq_encode .., fun _ _ _ => traceSend_eq_encode ..,
    fun n l => congrArg (List.replicate n) (traceTick_eq_encode l)⟩

end Sys2Proof

/-! PROOFS. The wire order of a sent frame and the receiver's extraction that undoes it; the refusals, BEGIN and SEND. -/

namespace Sys2Proof.Machine

open Sys2Proof

/-! ## The wire order of the buffer (20_memory.md R38, R39) -/

/-- A byte stands on the wire from bit `p` on, its bit 7 first (R38). -/
def TxBuf.Carries (buf : TxBuf) (p : Nat) (v : Byte) : Prop := ∀ k < 8, buf.bit (p + k) = some (v.getLsbD (7 - k))

/-- The wire bits of a byte, by their index in the stream. -/
theorem TxBuf.Carries.bit_eq {buf : TxBuf} {p : Nat} {v : Byte} (h : buf.Carries p v) {i : Nat} (hlo : p ≤ i)
    (hhi : i < p + 8) : buf.bit i = some (v.getLsbD (p + 7 - i)) := by
  have hbit := h (i - p) (by omega)
  rwa [Nat.add_sub_cancel' hlo, show 7 - (i - p) = p + 7 - i by omega] at hbit

/-- Byte `i` of the buffer stands on the wire from bit `8 * i` on. -/
theorem TxBuf.carries_of_read {buf : TxBuf} {i : Nat} {v : Byte} (h : buf.read i = some v) : buf.Carries (8 * i) v := by
  intro k hk
  have hdiv : (8 * i + k) / 8 = i := by omega
  have hmod : (8 * i + k) % 8 = k := by omega
  rw [TxBuf.bit, hdiv, hmod, h, Option.map_some]

/-! ## The loaded frame (40_init_and_send.md R69, R70) -/

/-- The third byte of the repack: the marker, then `B2` but for its last bit. -/
theorem repackedByte2_getLsbD (b2 : Byte) (j : Nat) :
    (1#1 ++ b2.extractLsb' 1 7 : Byte).getLsbD j = if j < 7 then b2.getLsbD (j + 1) else decide (j = 7) := by
  show BitVec.getLsbD (w := 1 + 7) (1#1 ++ b2.extractLsb' 1 7) j = _
  rw [BitVec.getLsbD_append, BitVec.getLsbD_extractLsb', BitVec.getLsbD_one]
  split
  · next h => rw [decide_eq_true h, Bool.true_and, Nat.add_comm]
  · next h =>
    have hj : j - 7 = 0 ↔ j = 7 := by omega
    simp [hj]

/-- The fourth byte of the repack: the last bit of `B2`, then zeros. -/
theorem repackedByte3_getLsbD (b2 : Byte) (j : Nat) :
    (b2.extractLsb' 0 1 ++ 0#7 : Byte).getLsbD j = (decide (j = 7) && b2.getLsbD 0) := by
  show BitVec.getLsbD (w := 1 + 7) (b2.extractLsb' 0 1 ++ 0#7) j = _
  rw [BitVec.getLsbD_append, BitVec.getLsbD_extractLsb', BitVec.getLsbD_zero]
  grind

/-- The frame's bytes with the repack in shifts and masks, as R70 writes it. -/
theorem loadFrame_eq_ite (n b0 b1 b2 b3 : Byte) (buf : TxBuf) :
    loadFrame n b0 b1 b2 b3 buf =
      if n = 25#8 then ⟨b0, b1, 0x80#8 ||| (b2 >>> 1), (b2 &&& 1#8) <<< 7⟩ else ⟨b0, b1, b2, b3⟩ := by
  have hbyte2 : (1#1 ++ b2.extractLsb' 1 7 : Byte) = 0x80#8 ||| (b2 >>> 1) := by decide +revert
  have hbyte3 : (b2.extractLsb' 0 1 ++ 0#7 : Byte) = (b2 &&& 1#8) <<< 7 := by decide +revert
  split
  · next h => rw [h, loadFrame_25, hbyte2, hbyte3]
  · next h => exact loadFrame_of_ne h b0 b1 b2 b3 buf

/-- The repacked frame on the wire: `B0`, `B1`, the marker, `B2` (R70). -/
theorem loadFrame_25_carries (b0 b1 b2 b3 : Byte) (buf : TxBuf) :
    (loadFrame 25#8 b0 b1 b2 b3 buf).Carries 0 b0 ∧ (loadFrame 25#8 b0 b1 b2 b3 buf).Carries 8 b1 ∧
    (loadFrame 25#8 b0 b1 b2 b3 buf).bit 16 = some true ∧ (loadFrame 25#8 b0 b1 b2 b3 buf).Carries 17 b2 := by
  have hbyte2 := TxBuf.carries_of_read (buf := loadFrame 25#8 b0 b1 b2 b3 buf) (i := 2) rfl
  have hbyte3 := TxBuf.carries_of_read (buf := loadFrame 25#8 b0 b1 b2 b3 buf) (i := 3) rfl
  refine ⟨TxBuf.carries_of_read (i := 0) rfl, TxBuf.carries_of_read (i := 1) rfl,
    (hbyte2 0 (by decide)).trans (congrArg some (repackedByte2_getLsbD b2 7)), ?_⟩
  intro k hk
  obtain hk | rfl : k < 7 ∨ k = 7 := by omega
  · rw [show 17 + k = 8 * 2 + (k + 1) by omega, hbyte2 (k + 1) (by omega)]
    refine congrArg some ((repackedByte2_getLsbD b2 (7 - (k + 1))).trans ?_)
    rw [if_pos (by omega), show 7 - (k + 1) + 1 = 7 - k by omega]
  · exact (hbyte3 0 (by decide)).trans (congrArg some (repackedByte3_getLsbD b2 7))

/-- Settles O14: the wire carries `B0`, `B1`, the marker and `B2`, one after another. -/
theorem repackedWireBits : Obligations.RepackedWireBits := by
  intro b0 b1 b2 b3 buf i hi
  obtain ⟨hb0, hb1, hmarker, hb2⟩ := loadFrame_25_carries b0 b1 b2 b3 buf
  split
  · exact hb0.bit_eq (by omega) (by omega)
  · split
    · exact hb1.bit_eq (by omega) (by omega)
    · split
      · next h => rw [h, hmarker]
      · exact hb2.bit_eq (by omega) (by omega)

/-! ## The receiver's extraction (41_tick.md R85, R86) -/

theorem bitsValue_concat (bits : List Bool) (b : Bool) : bitsValue (bits ++ [b]) = Nat.bit b (bitsValue bits) := by
  simp [bitsValue, Nat.bit_val]

/-- Bit `j` of the value of some bits is the one that stands `j` places before the last (20_memory.md R41). -/
theorem getElem?_eq_testBit_bitsValue (bits : List Bool) :
    ∀ {i j : Nat}, i + j + 1 = bits.length → bits[i]? = some ((bitsValue bits).testBit j) := by
  induction bits using List.reverseRecOn with
  | nil => simp
  | append_singleton bits b ih =>
    intro i j hij
    rw [List.length_append, List.length_singleton] at hij
    rw [bitsValue_concat]
    cases j with
    | zero =>
      obtain rfl : i = bits.length := by omega
      rw [List.getElem?_concat_length, Nat.testBit_bit_zero]
    | succ j =>
      rw [List.getElem?_append_left (by omega), Nat.testBit_bit_succ]
      exact ih (by omega)

/-- A byte on the wire is found in the value of the wire bits as many places up as bits follow it. -/
theorem extractLsb'_bitsValue {buf : TxBuf} {bits : List Bool} {p q : Nat} {v : Byte} (hwire : wireBits buf bits)
    (hv : buf.Carries p v) (hlen : p + 8 + q = bits.length) (hroom : bits.length ≤ 32) :
    (BitVec.ofNat 32 (bitsValue bits)).extractLsb' q 8 = v := by
  apply BitVec.eq_of_getLsbD_eq
  intro j hj
  have hi : p + (7 - j) < bits.length := by omega
  have hbit : some ((bitsValue bits).testBit (q + j)) = some (v.getLsbD j) := by
    calc
      some ((bitsValue bits).testBit (q + j)) = bits[p + (7 - j)]? :=
        (getElem?_eq_testBit_bitsValue bits (by omega)).symm
      _ = some bits[p + (7 - j)] := List.getElem?_eq_getElem hi
      _ = buf.bit (p + (7 - j)) := (hwire _ hi).symm
      _ = some (v.getLsbD (7 - (7 - j))) := hv _ (by omega)
      _ = some (v.getLsbD j) := by rw [Nat.sub_sub_self (by omega)]
  rw [BitVec.getLsbD_extractLsb', BitVec.getLsbD_ofNat, decide_eq_true hj, decide_eq_true (by omega : q + j < 32),
    Bool.true_and, Bool.true_and, Option.some.inj hbit]

/-- The bytes of a received 16-bit command (R85). -/
theorem extractFrame_16 (acc : BitVec 32) :
    extractFrame 16#8 acc = some (acc.extractLsb' 8 8, acc.extractLsb' 0 8, 0#8) := rfl

/-- The bytes of a received 24-bit command (R85). -/
theorem extractFrame_24 (acc : BitVec 32) :
    extractFrame 24#8 acc = some (acc.extractLsb' 16 8, acc.extractLsb' 8 8, acc.extractLsb' 0 8) := rfl

/-- The bytes of a received 25-bit command, the marker's place left out (R86). -/
theorem extractFrame_25 (acc : BitVec 32) :
    extractFrame 25#8 acc = some (acc.extractLsb' 17 8, acc.extractLsb' 9 8, acc.extractLsb' 0 8) := by
  obtain ⟨h0, h1, h2⟩ := realign25_bytes acc
  rw [← h0, ← h1, ← h2]
  rfl

/-- Settles O15: each payload byte stands whole on the wire, and the extraction of that length takes it from its place. -/
theorem sendThenExtractIsIdentity : Obligations.SendThenExtractIsIdentity := by
  intro n b0 b1 b2 b3 buf bits hn hlen hwire
  have hroom : bits.length ≤ 32 := by rcases hn with rfl | rfl | rfl <;> simp [hlen]
  have htake {p v} (q : Nat) (hv : (loadFrame n b0 b1 b2 b3 buf).Carries p v) (hq : p + 8 + q = n.toNat) :
      (BitVec.ofNat 32 (bitsValue bits)).extractLsb' q 8 = v :=
    extractLsb'_bitsValue hwire hv (hq.trans hlen.symm) hroom
  rcases hn with rfl | rfl | rfl
  · rw [extractFrame_16, htake 8 (TxBuf.carries_of_read (i := 0) rfl) rfl,
      htake 0 (TxBuf.carries_of_read (i := 1) rfl) rfl]
    rfl
  · rw [extractFrame_24, htake 16 (TxBuf.carries_of_read (i := 0) rfl) rfl,
      htake 8 (TxBuf.carries_of_read (i := 1) rfl) rfl, htake 0 (TxBuf.carries_of_read (i := 2) rfl) rfl]
    rfl
  · obtain ⟨hb0, hb1, -, hb2⟩ := loadFrame_25_carries b0 b1 b2 b3 buf
    rw [extractFrame_25, htake 17 hb0 rfl, htake 9 hb1 rfl, htake 0 hb2 rfl]
    rfl

/-! ## Which events are refused (R64, R65) -/

theorem whenStarted_eq_refused_iff {s n : State} {r : Refusal} :
    whenStarted s n = .refused r ↔ s.started = false ∧ r = .notStarted := by
  unfold whenStarted
  cases s.started <;> simp [eq_comm]

theorem whenUnstarted_eq_refused_iff {s n : State} {r : Refusal} :
    whenUnstarted s n = .refused r ↔ s.started = true ∧ r = .beginTwice := by
  unfold whenUnstarted
  cases s.started <;> simp [eq_comm]

theorem exec_begin_eq_refused_iff {p : Bool} {s : State} {r : Refusal} :
    exec (.begin p) s = .refused r ↔ s.started = true ∧ r = .beginTwice := whenUnstarted_eq_refused_iff

theorem exec_eq_refused_iff {i : Instr} (hi : ∀ p, i ≠ .begin p) {s : State} {r : Refusal} :
    exec i s = .refused r ↔ s.started = false ∧ r = .notStarted := by
  cases i with
  | begin p => exact absurd rfl (hi p)
  | tick l => exact whenStarted_eq_refused_iff
  | edge l t => exact whenStarted_eq_refused_iff
  | send n b0 b1 b2 b3 => exact whenStarted_eq_refused_iff
  | readResponse => exact whenStarted_eq_refused_iff
  | isIdle => exact whenStarted_eq_refused_iff

/-- An event is refused or completes: there is no fault (60_exceptions.md R106). -/
theorem exec_refused_or_next (i : Instr) (s : State) : (∃ r, exec i s = .refused r) ∨ ∃ t, exec i s = .next t := by
  cases exec i s with
  | next t => exact .inr ⟨t, rfl⟩
  | fault r => exact r.casesOn
  | refused r => exact .inl ⟨r, rfl⟩

/-- Settles O8: BEGIN asks for an unstarted block and every other event for a started one. -/
theorem eventsRefusedExactlyOutsideTheirPhase : Obligations.EventsRefusedExactlyOutsideTheirPhase := by
  intro s
  refine ⟨fun p => ?_, fun i hi => ?_, fun i => exec_refused_or_next i s, fun i r h => ?_⟩
  · rw [exec_begin_eq_refused_iff, and_iff_left rfl]
  · rw [exec_eq_refused_iff hi, and_iff_left rfl]
  · by_cases hi : ∃ p, i = .begin p
    · obtain ⟨p, rfl⟩ := hi
      exact .inl ⟨(exec_begin_eq_refused_iff.1 h).1, p, rfl⟩
    · have hi : ∀ p, i ≠ .begin p := not_exists.1 hi
      exact .inr ⟨((exec_eq_refused_iff hi).1 h).1, hi⟩

/-! ## BEGIN (R63) -/

/-- Settles O9: an unstarted block performs BEGIN, which writes every field. -/
theorem beginWritesEveryField : Obligations.BeginWritesEveryField := fun _ _ h => whenUnstarted_of_unstarted _ h

/-! ## SEND (R66 to R70) -/

theorem sendEvent_of_invalid {n : Byte} (hn : sendLengthOk n = false) (b0 b1 b2 b3 : Byte) (s : State) :
    sendEvent n b0 b1 b2 b3 s = sendReject .invalidParameter .invalidParameter s.startEvent := by
  simp [sendEvent, hn]

theorem sendEvent_of_busy {n : Byte} {s : State} (hn : sendLengthOk n = true) (hst : s.st ≠ .idle) (b0 b1 b2 b3 : Byte) :
    sendEvent n b0 b1 b2 b3 s = sendReject .busy .busy s.startEvent := by
  simp [sendEvent, hn, hst]

theorem sendEvent_of_idle {n : Byte} {s : State} (hn : sendLengthOk n = true) (hst : s.st = .idle) (b0 b1 b2 b3 : Byte) :
    sendEvent n b0 b1 b2 b3 s = sendAccept n b0 b1 b2 b3 s.startEvent := by
  simp [sendEvent, hn, hst]

/-- A started block performs SEND. -/
theorem exec_send_of_started {s : State} (hs : s.started = true) (n b0 b1 b2 b3 : Byte) :
    exec (.send n b0 b1 b2 b3) s = .next (sendEvent n b0 b1 b2 b3 s) := whenStarted_of_started _ hs

/-- Settles O11: the length is tested first, and a rejection writes its result and its error alone. -/
theorem sendRejectsOtherLengths : Obligations.SendRejectsOtherLengths := by
  intro n b0 b1 b2 b3 s hs h16 h24 h25
  have hn : sendLengthOk n = false := by simp [← Bool.not_eq_true, sendLengthOk_iff, h16, h24, h25]
  rw [exec_send_of_started hs, sendEvent_of_invalid hn]
  rfl

/-- Settles O12: a valid length passes the first test, and the bus state fails the second. -/
theorem sendRejectsWhenBusy : Obligations.SendRejectsWhenBusy := by
  intro n b0 b1 b2 b3 s hs hn hst
  rw [exec_send_of_started hs, sendEvent_of_busy ((sendLengthOk_iff n).2 hn) hst]
  rfl

/-- Settles O13: both tests pass, and the frame is loaded with the repack that R70 writes. -/
theorem sendLoadsTheFrame : Obligations.SendLoadsTheFrame := by
  intro n b0 b1 b2 b3 s hs hst hn
  rw [exec_send_of_started hs, sendEvent_of_idle ((sendLengthOk_iff n).2 hn) hst,
    ← loadFrame_eq_ite n b0 b1 b2 b3 s.txBuf]
  rfl

end Sys2Proof.Machine

/-! PROOFS. TICK: the rules that it runs, what it leaves alone, the delivered frame, and the transmitted waveform. -/

namespace Sys2Proof.Machine

open Sys2Proof

/-! ## The rule that a TICK runs (41_tick.md R71, R73) -/

theorem exec_tick_of_not_stuckLow {l : Level} {s : State} (hs : s.started = true) (hn : ¬ StuckLow l s) :
    exec (.tick l) s = .next (tickTable (ticked s)) := by
  rw [← tickEvent_of_not_stuckLow hn]
  exact whenStarted_of_started _ hs

theorem exec_tick_of_isTx {s : State} (hs : s.started = true) (htx : isTx s.st = true) (l : Level) :
    exec (.tick l) s = .next (tickTable (ticked s)) :=
  exec_tick_of_not_stuckLow hs (not_stuckLow_of_isTx htx)

theorem tickEvent_of_stuckLow {l : Level} {s : State} (h : StuckLow l s) : tickEvent l s = tickPulldown (ticked s) :=
  if_pos ((pulldownFires_iff l s).2 h)

theorem exec_tick_of_stuckLow {l : Level} {s : State} (hs : s.started = true) (h : StuckLow l s) :
    exec (.tick l) s = .next (tickPulldown (ticked s)) := by
  rw [← tickEvent_of_stuckLow h]
  exact whenStarted_of_started _ hs

/-- In `SHORT` the line is never found stuck low. -/
theorem not_stuckLow_of_short {l : Level} {s : State} (h : s.st = .short) : ¬ StuckLow l s :=
  fun ⟨_, hshort, _⟩ => hshort h

/-! ## The row of each bus state (R74 to R83) -/

section
variable {s : State}

theorem tickTable_of_txStart1st (h : s.st = .txStart1st) : tickTable s = tickTxStart1st s := by simp only [tickTable, h]
theorem tickTable_of_txStart2nd (h : s.st = .txStart2nd) : tickTable s = tickTxStart2nd s := by simp only [tickTable, h]
theorem tickTable_of_txBit1st (h : s.st = .txBit1st) : tickTable s = tickTxBit1st s := by simp only [tickTable, h]
theorem tickTable_of_txBit2nd (h : s.st = .txBit2nd) : tickTable s = tickTxBit2nd s := by simp only [tickTable, h]
theorem tickTable_of_txStop1st (h : s.st = .txStop1st) : tickTable s = tickTxStop1st s := by simp only [tickTable, h]
theorem tickTable_of_txStop (h : s.st = .txStop) : tickTable s = tickTxStop s := by simp only [tickTable, h]
theorem tickTable_of_waitRx (h : s.st = .waitRx) : tickTable s = tickWaitRx s := by simp only [tickTable, h]
theorem tickTable_of_rxStop (h : s.st = .rxStop) : tickTable s = tickRxStop s := by simp only [tickTable, h]
theorem tickTable_of_receiving (h : Receiving s.st) : tickTable s = tickRxEnd s := by
  rcases h with h | h <;> simp only [tickTable, h]
theorem tickTable_of_idle (h : s.st = .idle) : tickTable s = s := by simp only [tickTable, h]
theorem tickTable_of_short (h : s.st = .short) : tickTable s = s := by simp only [tickTable, h]

end

/-! ## What a row writes (R71, R72) -/

/-- The row of `TX_BIT_2ND`: its two branches differ in the bus state alone. -/
theorem tickTxBit2nd_eq (s : State) :
    tickTxBit2nd s =
      { s with
        txLevel := oppositeLevel s.txLevel
        cursor := s.cursor + 1#8
        st := if s.cursor + 1#8 < s.txLen then .txBit1st else .txStop1st } :=
  (apply_ite (fun b => State.goto b { s.drive (oppositeLevel s.txLevel) with cursor := s.cursor + 1#8 }) _ _ _).symm

/-- All that a delivery can do: a `Frame` joins the output, and free values may be taken. -/
theorem deliverFrame_emits (s : State) : ∃ n k, s.deliverFrame = (s.emit n).drawn k := by
  rcases deliverFrame_eq s with ⟨b0, b1, b2, -, h⟩ | ⟨-, b0, b1, b2, h⟩
  exacts [⟨_, 0, h⟩, ⟨_, 3, h⟩]

/-- All that the frame boundary detector can do: nothing, or `IDLE` is entered, with a delivery or without. -/
theorem tickRxEnd_cases (s : State) :
    tickRxEnd s = s ∨ tickRxEnd s = s.goto .idle ∨ ∃ n k, tickRxEnd s = ((s.emit n).drawn k).goto .idle := by
  obtain ⟨n, k, hdeliver⟩ := deliverFrame_emits s
  unfold tickRxEnd
  split
  · split
    exacts [.inr (.inr ⟨n, k, by rw [hdeliver]⟩), .inr (.inl rfl)]
  · exact .inl rfl

/-- All that a row of the table can do to the fields that rows write, the bus state and the free values apart: `idle` is
reset at the end of the stop condition (R79), the cursor moves after the start bit and after a data bit (R75, R77), a level
is driven in a transmitting state, and one notification joins the output. -/
theorem tickTable_writes (s : State) :
    ((tickTable s).idle = if s.st = .txStop ∧ txStopTicks ≤ s.idle then 0#8 else s.idle) ∧
    ((tickTable s).cursor ≠ s.cursor → s.st = .txStart2nd ∨ s.st = .txBit2nd) ∧
    ((tickTable s).txLevel ≠ s.txLevel → isTx s.st = true) ∧
    ((tickTable s).outputs = s.outputs ∨ ∃ n, (tickTable s).outputs = s.outputs ++ [n]) := by
  cases hst : s.st <;> simp only [tickTable, hst]
  case txStart1st => unfold tickTxStart1st; split <;> simp [isTx, BusState.code]
  case txStart2nd => simp [tickTxStart2nd, isTx, BusState.code]
  case txBit1st => unfold tickTxBit1st; split <;> simp [isTx, BusState.code]
  case txBit2nd => simp [tickTxBit2nd_eq, isTx, BusState.code]
  case txStop1st => simp [tickTxStop1st, isTx, BusState.code]
  case txStop => unfold tickTxStop; split <;> next h => simp [h]
  case waitRx => unfold tickWaitRx; split <;> simp
  case rxStop => unfold tickRxStop; split <;> simp
  case rxStart | rxBit => rcases tickRxEnd_cases s with h | h | ⟨n, k, h⟩ <;> simp [h]
  case idle | short => simp

/-- Settles O29: a stuck-low line writes `txLevel`, the bus state and one notification, and the state table keeps the fields
of `tickTable_keeps` and bounds the others as `tickTable_writes` says. -/
theorem tickFrame : Obligations.TickFrame := by
  intro l s t h
  obtain ⟨-, rfl⟩ := whenStarted_eq_next_iff.1 h
  by_cases hlow : StuckLow l s
  · rw [tickEvent_of_stuckLow hlow]
    exact ⟨rfl, rfl, rfl, rfl, rfl, rfl, rfl, rfl, rfl, rfl, rfl, rfl, rfl, rfl, rfl, le_rfl, absurd rfl,
      fun _ => .inr hlow⟩
  · rw [tickEvent_of_not_stuckLow hlow]
    obtain ⟨hstarted, hlast, hbuf, hlen, hcoll, hresp, herr, hh, hrespAcc, hcmdAcc, hpol, hresult, hpending, hcfg,
      hwrapped⟩ := tickTable_keeps (ticked s)
    obtain ⟨-, hcursor, hlevel, hout⟩ := tickTable_writes (ticked s)
    refine ⟨hstarted, hlast, hbuf, hlen, hcoll, hresp, herr, hh, hrespAcc, hcmdAcc, hpol, hresult, hpending, hcfg,
      hwrapped, ?_, hcursor, fun h => .inl (hlevel h)⟩
    rcases hout with hout | ⟨n, hout⟩
    · exact (congrArg List.length hout).trans_le (Nat.zero_le 1)
    · exact (congrArg List.length hout).le

/-- Settles O16: the common part counts, and the end of the stop condition resets. The pulldown, which is outside the
transmitting states, writes no `idle`. -/
theorem tickCountsQuietTicks : Obligations.TickCountsQuietTicks := by
  intro l s t h
  obtain ⟨-, rfl⟩ := whenStarted_eq_next_iff.1 h
  rw [← satInc8_toNat]
  by_cases hlow : StuckLow l s
  · have hst : s.st ≠ .txStop := fun hst => not_stuckLow_of_isTx (hst ▸ rfl) hlow
    rw [tickEvent_of_stuckLow hlow, if_neg (fun h => hst h.1)]
    rfl
  · rw [tickEvent_of_not_stuckLow hlow, (tickTable_writes (ticked s)).1, apply_ite BitVec.toNat]
    rfl

/-! ## The stuck-low line, and the states that only count (R73, R83) -/

/-- Settles O17: the detector acts before the state table. -/
theorem pulldownForcesShort : Obligations.PulldownForcesShort := fun _ _ hs h => exec_tick_of_stuckLow hs h

theorem exec_tick_of_short {s : State} (hs : s.started = true) (hst : s.st = .short) (l : Level) :
    exec (.tick l) s = .next (ticked s) := by
  rw [exec_tick_of_not_stuckLow hs (not_stuckLow_of_short hst), tickTable_of_short (s := ticked s) hst]

/-- A `LOW` EDGE in `SHORT` does its common part alone (43_edge_receive.md R98). -/
theorem edgeEvent_low_of_short {s : State} (hst : s.st = .short) (ts : BitVec 32) : edgeEvent .low ts s = edged ts s := by
  simp only [edgeEvent, activityFires, edgeRule, noteEdge_st, startEvent_st, hst, edgeShort]
  rfl

/-- An event that leaves `SHORT` is a `HIGH` EDGE (R98). -/
theorem eq_edge_high_of_leaves_short {i : Instr} {s t : State} (hs : s.started = true) (hst : s.st = .short)
    (h : exec i s = .next t) (ht : t.st ≠ .short) : ∃ ts, i = .edge .high ts := by
  cases i with
  | begin p =>
    obtain ⟨hunstarted, -⟩ := whenUnstarted_eq_next_iff.1 h
    simp [hs] at hunstarted
  | tick l =>
    cases (exec_tick_of_short hs hst l).symm.trans h
    exact absurd hst ht
  | edge l ts =>
    obtain ⟨-, rfl⟩ := whenStarted_eq_next_iff.1 h
    cases l with
    | low => rw [edgeEvent_low_of_short hst] at ht; exact absurd hst ht
    | high => exact ⟨ts, rfl⟩
  | send n b0 b1 b2 b3 =>
    obtain ⟨r, o, hsend⟩ := exec_send_rejected hs (by simp [hst]) n b0 b1 b2 b3
    cases hsend.symm.trans h
    exact absurd hst ht
  | readResponse =>
    obtain ⟨-, rfl⟩ := whenStarted_eq_next_iff.1 h
    exact absurd hst ht
  | isIdle =>
    obtain ⟨-, rfl⟩ := whenStarted_eq_next_iff.1 h
    exact absurd hst ht

/-- Settles O26: the rows of `IDLE` and `SHORT` do nothing, and of all events only a `HIGH` EDGE has a rule that leaves
`SHORT`. -/
theorem tickInIdleAndShortOnlyCounts : Obligations.TickInIdleAndShortOnlyCounts := by
  refine ⟨fun l s hs hst => exec_tick_of_short hs hst l, fun l s hs hst hn => ?_,
    fun l s hs _ hlow => pulldownForcesShort l s hs hlow, fun i s t => eq_edge_high_of_leaves_short⟩
  rw [exec_tick_of_not_stuckLow hs hn, tickTable_of_idle (s := ticked s) hst]

/-! ## Sending (R74 to R79) -/

/-- Settles O18: the threshold is tested on the incremented `idle`. -/
theorem startBitWaitsForSettling : Obligations.StartBitWaitsForSettling := by
  intro l s hs hst
  rw [exec_tick_of_isTx hs (hst ▸ rfl), tickTable_of_txStart1st (s := ticked s) hst]
  rfl

/-- Settles O19: the row of `TX_START_2ND` has no condition. -/
theorem startBitSecondHalf : Obligations.StartBitSecondHalf := by
  intro l s hs hst
  rw [exec_tick_of_isTx hs (hst ▸ rfl), tickTable_of_txStart2nd (s := ticked s) hst]
  rfl

theorem TxBuf.read_eq_getElem? (buf : TxBuf) (i : Nat) : buf.read i = [buf.b0, buf.b1, buf.b2, buf.b3][i]? := by
  match i with
  | 0 | 1 | 2 | 3 | _ + 4 => rfl

theorem TxBuf.bit_eq_none {buf : TxBuf} {i : Nat} (h : 32 ≤ i) : buf.bit i = none := by
  rw [TxBuf.bit, TxBuf.read_eq_getElem?, List.getElem?_eq_none (by simp; omega), Option.map_none]

/-- A data bit that the rules define: the TICK drives its first half (R76). -/
theorem exec_tick_of_currentBit {s : State} {b : Bool} (hs : s.started = true) (hst : s.st = .txBit1st)
    (hbit : s.currentBit = some b) (l : Level) :
    exec (.tick l) s = .next { ticked s with txLevel := firstHalf b, st := .txBit2nd } := by
  have hbit' : (ticked s).currentBit = some b := hbit
  rw [exec_tick_of_isTx hs (hst ▸ rfl), tickTable_of_txBit1st (s := ticked s) hst, tickTxBit1st, hbit']
  rfl

/-- Settles O20: inside the frame the bit is the one of R39. -/
theorem dataBitFirstHalf : Obligations.DataBitFirstHalf := by
  intro l s byte hs hst hcursor hbyte
  have hbit : s.currentBit = some (byte.getLsbD (7 - s.cursor.toNat % 8)) := by
    rw [State.currentBit, if_pos (BitVec.lt_def.2 hcursor), TxBuf.bit, TxBuf.read_eq_getElem?, hbyte, Option.map_some]
  exact exec_tick_of_currentBit hs hst hbit l

theorem oppositeLevel_eq_ite (l : Level) : oppositeLevel l = if l = .low then .high else .low := by cases l <;> rfl

/-- Settles O21: the row of `TX_BIT_2ND`, with the opposite level and the bus state written out. -/
theorem dataBitSecondHalf : Obligations.DataBitSecondHalf := by
  intro l s hs hst
  rw [exec_tick_of_isTx hs (hst ▸ rfl), tickTable_of_txBit2nd (s := ticked s) hst, tickTxBit2nd_eq,
    ← oppositeLevel_eq_ite]
  rfl

/-- Settles O22: the rows of the two states of the stop condition. -/
theorem stopConditionThenResponseWindow : Obligations.StopConditionThenResponseWindow := by
  refine fun l s hs => ⟨fun hst => ?_, fun hst => ?_⟩
  · rw [exec_tick_of_isTx hs (hst ▸ rfl), tickTable_of_txStop1st (s := ticked s) hst]
    rfl
  · rw [exec_tick_of_isTx hs (hst ▸ rfl), tickTable_of_txStop (s := ticked s) hst]
    rfl

/-! ## The ends of the response window, of the drain and of a frame (R80 to R87) -/

/-- Settles O23: the row of `WAIT_RX`, which no pulldown precedes. -/
theorem responseWindowTimesOut : Obligations.ResponseWindowTimesOut := by
  intro l s hs hst hn
  rw [exec_tick_of_not_stuckLow hs hn, tickTable_of_waitRx (s := ticked s) hst]
  rfl

/-- Settles O24: the row of `RX_STOP`, which no pulldown precedes. -/
theorem drainTimesOut : Obligations.DrainTimesOut := by
  intro l s hs hst hn
  rw [exec_tick_of_not_stuckLow hs hn, tickTable_of_rxStop (s := ticked s) hst]
  rfl

theorem tickRxEnd_of_early {s : State} (hidle : s.idle.toNat ≤ 3) : tickRxEnd s = s := if_neg (Nat.not_lt.2 hidle)

theorem tickRxEnd_of_few {s : State} (hidle : 3 < s.idle.toNat) (hh : s.h.toNat ≤ 16) : tickRxEnd s = s.goto .idle := by
  rw [tickRxEnd, if_pos (show rxEndTicks < s.idle from hidle), if_neg (show ¬ cmdMinHalfBits < s.h from Nat.not_lt.2 hh)]

theorem tickRxEnd_of_many {s : State} (hidle : 3 < s.idle.toNat) (hh : 16 < s.h.toNat) :
    tickRxEnd s = s.deliverFrame.goto .idle := by
  rw [tickRxEnd, if_pos (show rxEndTicks < s.idle from hidle), if_pos (show cmdMinHalfBits < s.h from hh)]

theorem frameLength_eq_ofNat (h : BitVec 8) : frameLength h = BitVec.ofNat 8 (h.toNat / 2) := by
  rw [← frameLength_toNat, BitVec.ofNat_toNat, BitVec.setWidth_eq]

theorem exec_tick_of_receiving {l : Level} {s : State} (hs : s.started = true) (hst : Receiving s.st)
    (hn : ¬ StuckLow l s) : exec (.tick l) s = .next (tickRxEnd (ticked s)) := by
  rw [exec_tick_of_not_stuckLow hs hn, tickTable_of_receiving (s := ticked s) hst]

/-- Settles O25: too early, too few half-bits, or a delivery with the bytes that the rules give. -/
theorem frameBoundaryDelivers : Obligations.FrameBoundaryDelivers := by
  intro l s hs hst hn
  rw [exec_tick_of_receiving hs hst hn]
  refine ⟨fun hidle => ?_, fun hidle hh => ?_, fun b0 b1 b2 hidle hh hbytes => ?_⟩
  · rw [tickRxEnd_of_early (s := ticked s) hidle]
  · rw [tickRxEnd_of_few (s := ticked s) hidle hh]
    rfl
  · have hbytes' : (ticked s).frameBytes = some (b0, b1, b2) := hbytes
    rw [tickRxEnd_of_many (s := ticked s) hidle hh, State.deliverFrame, hbytes', ← frameLength_eq_ofNat]
    rfl

/-- The bytes of a frame whose length the rules cover, while `h` has not wrapped. -/
theorem frameBytes_of_length {s : State} (hw : s.hWrapped = false) {n : Nat} (hn : s.h.toNat / 2 = n) :
    s.frameBytes = extractFrame (BitVec.ofNat 8 n) s.cmdAcc := by
  rw [State.frameBytes, if_neg (by simp [hw]), frameLength_eq_ofNat, hn]

/-- Settles O27: the four lengths of the table; a byte taken at a place is the accumulator shifted down to it. -/
theorem extractionTable : Obligations.ExtractionTable := by
  refine fun s hw => ⟨fun hn => ?_, fun hn => ?_, fun hn => ?_, fun hn => ?_⟩ <;> rw [frameBytes_of_length hw hn]
  · rfl
  · exact extractFrame_16 s.cmdAcc
  · exact extractFrame_24 s.cmdAcc
  · exact extractFrame_25 s.cmdAcc

/-- The frames that no rule gives bytes (R87, log entry 9). -/
theorem frameBytes_eq_none {s : State} (h : s.hWrapped = true ∨ s.h.toNat / 2 ∉ [8, 16, 24, 25]) :
    s.frameBytes = none := by
  unfold State.frameBytes
  split
  · rfl
  · next hw =>
    have hlen : (frameLength s.h).toNat ∉ [8, 16, 24, 25] := frameLength_toNat s.h ▸ h.resolve_left hw
    refine Option.not_isSome_iff_eq_none.1 fun hsome => hlen ?_
    rcases (extractFrame_isSome_iff _ _).1 hsome with e | e | e | e <;> simp [e]

/-- The data bits that no rule defines (20_memory.md R39, log entry 10). -/
theorem currentBit_eq_none {s : State} (h : s.txLen.toNat ≤ s.cursor.toNat ∨ 32 ≤ s.cursor.toNat) :
    s.currentBit = none := by
  unfold State.currentBit
  split
  · next hcursor => exact TxBuf.bit_eq_none (h.resolve_left (Nat.not_le.2 hcursor))
  · rfl

/-- Settles O28: where no rule gives the bytes or the bit, the rows take free values. -/
theorem freeValuesWhereNoRuleGivesOne : Obligations.FreeValuesWhereNoRuleGivesOne := by
  refine fun l s hs hn => ⟨fun hst hidle hh hfree => ?_, fun hst hfree => ?_⟩
  · have hbytes : (ticked s).frameBytes = none := frameBytes_eq_none hfree
    rw [exec_tick_of_receiving hs hst hn, tickRxEnd_of_many (s := ticked s) hidle hh, State.deliverFrame, hbytes,
      ← frameLength_eq_ofNat]
    rfl
  · have hbit : (ticked s).currentBit = none := currentBit_eq_none hfree
    rw [exec_tick_of_not_stuckLow hs hn, tickTable_of_txBit1st (s := ticked s) hst, tickTxBit1st, hbit]
    rfl

/-! ## The transmitted waveform (R88) -/

/-- The half-bit levels of data bits (20_memory.md R40). -/
def dataLevels (bits : List Bool) : List Level := bits.flatMap fun b => [firstHalf b, oppositeLevel (firstHalf b)]

theorem dataLevels_length (bits : List Bool) : (dataLevels bits).length = 2 * bits.length := by
  simp [dataLevels, Nat.mul_comm]

/-- The waveform: the first half of the start bit, and what is driven after it. -/
theorem waveform_eq (bits : List Bool) : waveform bits = .low :: .high :: (dataLevels bits ++ [.high]) := by
  have hhalves : (fun b : Bool => if b then [Level.low, Level.high] else [Level.high, Level.low]) =
      fun b => [firstHalf b, oppositeLevel (firstHalf b)] := by funext b; cases b <;> rfl
  rw [waveform, hhalves]
  rfl

/-- The block is started and its buffer holds a frame of these bits. -/
structure Sending (bits : List Bool) (s : State) : Prop where
  started : s.started = true
  nonempty : bits ≠ []
  length : bits.length = s.txLen.toNat
  wire : wireBits s.txBuf bits

/-- The levels that the block has still to drive in a frame of these bits, from the second half of the start bit on. -/
inductive StillToDrive (bits : List Bool) (s : State) : List Level → Prop where
  | startBit (hst : s.st = .txStart2nd) : StillToDrive bits s (.high :: (dataLevels bits ++ [.high]))
  | dataBit {b rest} (hst : s.st = .txBit1st) (hleft : bits.drop s.cursor.toNat = b :: rest) :
    StillToDrive bits s (firstHalf b :: oppositeLevel (firstHalf b) :: (dataLevels rest ++ [.high]))
  | secondHalf {b rest} (hst : s.st = .txBit2nd) (hleft : bits.drop s.cursor.toNat = b :: rest)
    (hdriven : s.txLevel = firstHalf b) :
    StillToDrive bits s (oppositeLevel (firstHalf b) :: (dataLevels rest ++ [.high]))
  | stopLevel (hst : s.st = .txStop1st) : StillToDrive bits s [.high]
  | nothing : StillToDrive bits s []

section
variable {bits : List Bool} {s t : State} {l : Level}

/-- A TICK keeps the frame (R71). -/
theorem Sending.tick (hs : Sending bits s) (h : exec (.tick l) s = .next t) : Sending bits t := by
  obtain ⟨hstarted, -, hbuf, hlen, -⟩ := tickFrame l s t h
  exact ⟨hstarted.trans hs.started, hs.nonempty, hlen ▸ hs.length, hbuf ▸ hs.wire⟩

/-- The first of the data bits that are left is the one at the cursor. -/
theorem Sending.currentBit {b : Bool} {rest : List Bool} (hs : Sending bits s)
    (hleft : bits.drop s.cursor.toNat = b :: rest) : s.currentBit = some b := by
  have hget : bits[s.cursor.toNat]? = some b := by rw [← List.head?_drop, hleft, List.head?_cons]
  obtain ⟨hlt, rfl⟩ := List.getElem?_eq_some_iff.1 hget
  rw [State.currentBit, if_pos (BitVec.lt_def.2 (hs.length ▸ hlt)), hs.wire _ hlt]

/-- After both halves of a data bit: the next bit, or the stop level where none is left (R77). -/
theorem StillToDrive.afterDataBit {b : Bool} {rest : List Bool} (hs : Sending bits s)
    (hleft : bits.drop s.cursor.toNat = b :: rest) (hcursor : t.cursor = s.cursor + 1#8)
    (hst : t.st = if (s.cursor + 1#8).toNat < s.txLen.toNat then .txBit1st else .txStop1st) :
    StillToDrive bits t (dataLevels rest ++ [.high]) := by
  have hcount : bits.length - s.cursor.toNat = rest.length + 1 := by rw [← List.length_drop, hleft, List.length_cons]
  have hnext : (s.cursor + 1#8).toNat = s.cursor.toNat + 1 := by
    have hbound : bits.length < 256 := hs.length ▸ s.txLen.isLt
    bv_omega
  have hmore : (s.cursor + 1#8).toNat < s.txLen.toNat ↔ 0 < rest.length := by rw [hnext, ← hs.length]; omega
  have hrest : bits.drop t.cursor.toNat = rest := by rw [hcursor, hnext, ← List.tail_drop, hleft, List.tail_cons]
  cases rest with
  | nil => exact .stopLevel (hst.trans (if_neg (mt hmore.1 (Nat.lt_irrefl 0))))
  | cons b' rest' => exact .dataBit (hst.trans (if_pos (hmore.2 (Nat.succ_pos _)))) hrest

/-- A TICK drives the first of the levels still to drive, and the others remain. -/
theorem StillToDrive.tick {v : Level} {ws : List Level} (hs : Sending bits s) (hd : StillToDrive bits s (v :: ws))
    (h : exec (.tick l) s = .next t) : t.txLevel = v ∧ StillToDrive bits t ws := by
  cases hd with
  | startBit hst =>
    cases (startBitSecondHalf l s hs.started hst).symm.trans h
    obtain ⟨b, rest, rfl⟩ := List.exists_cons_of_ne_nil hs.nonempty
    exact ⟨rfl, .dataBit rfl rfl⟩
  | dataBit hst hleft =>
    cases (exec_tick_of_currentBit hs.started hst (hs.currentBit hleft) l).symm.trans h
    exact ⟨rfl, .secondHalf rfl hleft rfl⟩
  | secondHalf hst hleft hdriven =>
    cases (dataBitSecondHalf l s hs.started hst).symm.trans h
    exact ⟨by rw [← hdriven, oppositeLevel_eq_ite], .afterDataBit hs hleft rfl rfl⟩
  | stopLevel hst =>
    cases ((stopConditionThenResponseWindow l s hs.started).1 hst).symm.trans h
    exact ⟨rfl, .nothing⟩

/-- Self-feedback is ignored: the EDGE does its common part alone (42_edge_collision.md R92). -/
theorem edgeEvent_of_selfFeedback (hself : selfFeedback l s = true) (ts : BitVec 32) : edgeEvent l ts s = edged ts s := by
  obtain ⟨htx, hlevel⟩ : isTx s.st = true ∧ l = s.txLevel := by simpa [selfFeedback] using hself
  have hrule : edgeRule l (s.delta ts) (s.startEvent.noteEdge ts) = edged ts s := by
    rw [edgeRule_of_isTx (s := s.startEvent.noteEdge ts) htx]
    exact if_neg (not_not.2 hlevel)
  simp [edgeEvent, hrule, activityFires, hself]

/-- Self-feedback leaves the levels still to drive. -/
theorem StillToDrive.after_edge {ws : List Level} (hd : StillToDrive bits s ws) (ts : BitVec 32) :
    StillToDrive bits (edged ts s) ws := by
  cases hd with
  | startBit hst => exact .startBit hst
  | dataBit hst hleft => exact .dataBit hst hleft
  | secondHalf hst hleft hdriven => exact .secondHalf hst hleft hdriven
  | stopLevel hst => exact .stopLevel hst
  | nothing => exact .nothing

theorem tickLevels_tick_of_next (h : exec (.tick l) s = .next t) (is : List Instr) :
    tickLevels (.tick l :: is) s = (tickLevels is t).map (t.txLevel :: ·) := by
  simp only [tickLevels, h]

/-- The levels of a run that begins with a TICK: the one it drives, and those of the rest. -/
theorem tickLevels_tick_eq_some {is : List Instr} {ls : List Level} (h : tickLevels (.tick l :: is) s = some ls) :
    ∃ t rest, exec (.tick l) s = .next t ∧ tickLevels is t = some rest ∧ ls = t.txLevel :: rest := by
  cases hexec : exec (.tick l) s with
  | next t =>
    rw [tickLevels_tick_of_next hexec, Option.map_eq_some_iff] at h
    obtain ⟨rest, hrest, rfl⟩ := h
    exact ⟨t, rest, rfl, hrest, rfl⟩
  | fault r => exact r.casesOn
  | refused r => simp [tickLevels, hexec] at h

/-- A run that begins with an EDGE has levels where the EDGE is self-feedback: those of the rest. -/
theorem tickLevels_edge_eq_some {ts : BitVec 32} {is : List Instr} {ls : List Level}
    (h : tickLevels (.edge l ts :: is) s = some ls) : tickLevels is (edged ts s) = some ls := by
  simp only [tickLevels] at h
  split at h
  · next hself hexec =>
    obtain ⟨-, rfl⟩ := whenStarted_eq_next_iff.1 hexec
    rwa [edgeEvent_of_selfFeedback hself] at h
  · cases h

/-- An undisturbed run of as many TICKs as there are levels still to drive drives those. -/
theorem tickLevels_eq_of_stillToDrive {is : List Instr} {ls ws : List Level} (hs : Sending bits s)
    (hd : StillToDrive bits s ws) (hrun : tickLevels is s = some ls) (hlen : ls.length = ws.length) : ls = ws := by
  induction is generalizing s ls ws with
  | nil =>
    cases hrun
    exact (List.eq_nil_of_length_eq_zero hlen.symm).symm
  | cons i is ih =>
    cases i with
    | tick l =>
      obtain ⟨t, rest, hexec, hrest, rfl⟩ := tickLevels_tick_eq_some hrun
      obtain ⟨v, ws, rfl⟩ := List.exists_of_length_succ _ hlen.symm
      obtain ⟨rfl, hd'⟩ := hd.tick hs hexec
      exact congrArg _ (ih (hs.tick hexec) hd' hrest (Nat.succ.inj hlen))
    | edge l ts =>
      have hs' : Sending bits (edged ts s) := ⟨hs.started, hs.nonempty, hs.length, hs.wire⟩
      exact ih hs' (hd.after_edge ts) (tickLevels_edge_eq_some hrun) hlen
    | begin p => cases hrun
    | send n b0 b1 b2 b3 => cases hrun
    | readResponse => cases hrun
    | isIdle => cases hrun

/-- A run of TICKs alone is undisturbed. -/
theorem tickLevels_map_tick {levels ws : List Level} (hs : Sending bits s) (hd : StillToDrive bits s ws)
    (hlen : levels.length = ws.length) : tickLevels (levels.map .tick) s = some ws := by
  induction levels generalizing s ws with
  | nil => rw [List.eq_nil_of_length_eq_zero hlen.symm]; rfl
  | cons l levels ih =>
    obtain ⟨v, ws, rfl⟩ := List.exists_of_length_succ _ hlen.symm
    have hexec : exec (.tick l) s = .next (tickEvent l s) := whenStarted_of_started _ hs.started
    obtain ⟨hv, hd'⟩ := hd.tick hs hexec
    rw [List.map_cons, tickLevels_tick_of_next hexec, ih (hs.tick hexec) hd' (Nat.succ.inj hlen), hv, Option.map_some]

end

/-- Settles O30: the first TICK drives the first half of the start bit, and each TICK after it the next level of the waveform,
which self-feedback between them does not change. -/
theorem transmittedWaveform : Obligations.TransmittedWaveform := by
  intro l0 rest ls bits s hs hst hidle hne hlen hwire
  have hfirst : exec (.tick l0) s = .next { ticked s with txLevel := .low, st := .txStart2nd } := by
    rw [startBitWaitsForSettling l0 s hs hst, if_pos hidle]
  have hsend : Sending bits { ticked s with txLevel := .low, st := .txStart2nd } := ⟨hs, hne, hlen, hwire⟩
  have hcount : (Level.high :: (dataLevels bits ++ [.high])).length = 2 * bits.length + 2 := by simp [dataLevels_length]
  rw [waveform_eq]
  refine ⟨fun hrun hticks => ?_, fun levels hticks => ?_⟩
  · obtain ⟨t, ls', hexec, hrest, rfl⟩ := tickLevels_tick_eq_some hrun
    cases hfirst.symm.trans hexec
    exact congrArg _ (tickLevels_eq_of_stillToDrive hsend (.startBit rfl) hrest ((Nat.succ.inj hticks).trans hcount.symm))
  · rw [tickLevels_tick_of_next hfirst, tickLevels_map_tick hsend (.startBit rfl) (hticks.trans hcount.symm),
      Option.map_some]

end Sys2Proof.Machine

/-! PROOFS. EDGE: the rule that it runs, what it writes and leaves alone, the collision and the self-feedback. -/

namespace Sys2Proof.Machine

open Sys2Proof

/-! ## The rule that an EDGE runs (42_edge_collision.md R89, R90) -/

theorem exec_edge_of_started {s : State} (hs : s.started = true) (l : Level) (ts : BitVec 32) :
    exec (.edge l ts) s = .next (edgeEvent l ts s) := whenStarted_of_started _ hs

/-- An EDGE is the state rule on the state that the common part leaves, and `Activity` joins the output where it is due. -/
theorem edgeEvent_eq (l : Level) (ts : BitVec 32) (s : State) :
    edgeEvent l ts s =
      { edgeRule l (s.delta ts) (edged ts s) with
        outputs := (edgeRule l (s.delta ts) (edged ts s)).outputs ++ if activityFires l s then [.activity] else [] } := by
  simp only [edgeEvent]
  split
  · rfl
  · rw [List.append_nil]; rfl

/-- Where it is no self-feedback, an EDGE emits `Activity` by its level alone (43_edge_receive.md R101). -/
theorem edgeEvent_of_not_selfFeedback {l : Level} {s : State} (h : selfFeedback l s = false) (ts : BitVec 32) :
    edgeEvent l ts s =
      { edgeRule l (s.delta ts) (edged ts s) with
        outputs := (edgeRule l (s.delta ts) (edged ts s)).outputs ++ activityOf l } := by
  have hactivity : (if activityFires l s then [.activity] else []) = activityOf l := by
    cases l <;> simp [activityFires, activityOf, h]
  rw [edgeEvent_eq, hactivity]

section
variable {s : State} (l : Level) (d : BitVec 32)

theorem edgeRule_of_waitRx (h : s.st = .waitRx) : edgeRule l d s = edgeWaitRx l s := by simp only [edgeRule, h]
theorem edgeRule_of_idle (h : s.st = .idle) : edgeRule l d s = edgeIdle l s := by simp only [edgeRule, h]
theorem edgeRule_of_rxStart (h : s.st = .rxStart) : edgeRule l d s = edgeRxStart l d s := by simp only [edgeRule, h]
theorem edgeRule_of_rxBit (h : s.st = .rxBit) : edgeRule l d s = edgeRxBit l d s := by simp only [edgeRule, h]
theorem edgeRule_of_rxStop (h : s.st = .rxStop) : edgeRule l d s = s := by simp only [edgeRule, h]
theorem edgeRule_of_short (h : s.st = .short) : edgeRule l d s = edgeShort l s := by simp only [edgeRule, h]

end

/-! ## What a state rule writes (R89, 10_state.md R22, R23) -/

/-- A collision writes the bus state, the collision flag and the output. -/
theorem edgeTx_keeps (l : Level) (s : State) :
    (edgeTx l s).rxResp = s.rxResp ∧ (edgeTx l s).respAcc = s.respAcc ∧ (edgeTx l s).cmdAcc = s.cmdAcc := by
  unfold edgeTx
  split <;> exact ⟨rfl, rfl, rfl⟩

/-- A shift writes the accumulator of its mode only. -/
theorem shiftIn_writes (l : Level) (s : State) :
    ((s.shiftIn l).respAcc ≠ s.respAcc → s.rxResp = true) ∧ ((s.shiftIn l).cmdAcc ≠ s.cmdAcc → s.rxResp = false) := by
  rw [shiftIn_respAcc, shiftIn_cmdAcc]
  cases s.rxResp
  exacts [⟨absurd rfl, fun _ => rfl⟩, ⟨fun _ => rfl, absurd rfl⟩]

/-- The decoder writes no mode and no collision flag, and of the accumulators that of its mode only. -/
theorem decoderStep_writes (l : Level) (d : BitVec 32) (s : State) :
    (decoderStep l d s).coll = s.coll ∧ (decoderStep l d s).rxResp = s.rxResp ∧
    ((decoderStep l d s).respAcc ≠ s.respAcc → s.rxResp = true) ∧
    ((decoderStep l d s).cmdAcc ≠ s.cmdAcc → s.rxResp = false) := by
  obtain ⟨hresp, hcmd⟩ := shiftIn_writes l s
  unfold decoderStep
  split
  · split
    exacts [⟨shiftIn_coll l s, shiftIn_rxResp l s, hresp, hcmd⟩, ⟨rfl, rfl, absurd rfl, absurd rfl⟩]
  · exact ⟨shiftIn_coll l s, shiftIn_rxResp l s, hresp, hcmd⟩
  · exact ⟨rfl, rfl, absurd rfl, absurd rfl⟩

/-- The end-of-response test writes the bus state alone. -/
theorem endResponse_eq (s : State) : endResponse s = s.goto (if responseComplete s then .rxStop else s.st) := by
  unfold endResponse
  split <;> rfl

/-- All that a state rule of EDGE can do to the fields that rules write, the bus state, the latch and the output apart. -/
theorem edgeRule_writes (l : Level) (d : BitVec 32) (s : State) :
    ((edgeRule l d s).coll ≠ s.coll → isTx s.st = true) ∧
    ((edgeRule l d s).rxResp ≠ s.rxResp → s.st = .idle ∨ s.st = .waitRx) ∧
    ((edgeRule l d s).respAcc ≠ s.respAcc → s.st = .rxStart ∨ (s.st = .rxBit ∧ s.rxResp = true)) ∧
    ((edgeRule l d s).cmdAcc ≠ s.cmdAcc → s.st = .rxStart ∨ (s.st = .rxBit ∧ s.rxResp = false)) := by
  cases hst : s.st
  case txStart1st | txStart2nd | txBit1st | txBit2nd | txStop1st | txStop =>
    obtain ⟨hresp, hrespAcc, hcmdAcc⟩ := edgeTx_keeps l s
    rw [edgeRule_of_isTx (by rw [hst]; rfl)]
    exact ⟨fun _ => rfl, absurd hresp, absurd hrespAcc, absurd hcmdAcc⟩
  case waitRx =>
    rw [edgeRule_of_waitRx l d hst]
    cases l <;> exact ⟨absurd rfl, fun _ => .inr rfl, absurd rfl, absurd rfl⟩
  case idle =>
    rw [edgeRule_of_idle l d hst]
    cases l <;> exact ⟨absurd rfl, fun _ => .inl rfl, absurd rfl, absurd rfl⟩
  case rxStart =>
    rw [edgeRule_of_rxStart l d hst, edgeRxStart]
    split <;> exact ⟨absurd rfl, absurd rfl, fun _ => .inl rfl, fun _ => .inl rfl⟩
  case rxBit =>
    obtain ⟨hcoll, hresp, hrespAcc, hcmdAcc⟩ := decoderStep_writes l d s
    rw [edgeRule_of_rxBit l d hst, edgeRxBit, endResponse_eq]
    exact ⟨absurd hcoll, absurd hresp, fun h => .inr ⟨rfl, hrespAcc h⟩, fun h => .inr ⟨rfl, hcmdAcc h⟩⟩
  case rxStop =>
    rw [edgeRule_of_rxStop l d hst]
    exact ⟨absurd rfl, absurd rfl, absurd rfl, absurd rfl⟩
  case short =>
    rw [edgeRule_of_short l d hst]
    cases l <;> exact ⟨absurd rfl, absurd rfl, absurd rfl, absurd rfl⟩

/-- Settles O41: the common part writes `idle`, `lastTs` and the outputs, the state rule keeps the fields of `edgeRule_keeps`
and writes the others as `edgeRule_writes` says, and it leaves the latch alone outside a reception. -/
theorem edgeFrame : Obligations.EdgeFrame := by
  intro l ts s t h
  obtain ⟨-, rfl⟩ := whenStarted_eq_next_iff.1 h
  have hlatch (hst : ¬ Receiving s.st) : SameLatch s (edgeEvent l ts s) := edgeEvent_sameLatch hst l ts
  rw [edgeEvent_eq] at hlatch ⊢
  obtain ⟨hstarted, hidle, hlast, hbuf, hlen, hcursor, hlevel, hpol, hresult, hpending, hcfg, hdraws⟩ :=
    edgeRule_keeps l (s.delta ts) (edged ts s)
  obtain ⟨hcoll, hresp, hrespAcc, hcmdAcc⟩ := edgeRule_writes l (s.delta ts) (edged ts s)
  refine ⟨hidle, hlast, hstarted, hbuf, hlen, hcursor, hlevel, hpol, hresult, hpending, hcfg, hdraws, hcoll, hresp,
    fun hwritten => by_contra fun hst => ?_, fun hwritten => by_contra fun hst => ?_, hrespAcc, hcmdAcc⟩
  · obtain ⟨-, herr, -⟩ := hlatch hst
    exact hwritten herr
  · obtain ⟨hh, -, hwrap⟩ := hlatch hst
    exact hwritten.elim (absurd hh) (absurd hwrap)

/-! ## The transmitting states (R91, R92) -/

/-- Settles O31: an EDGE of the opposite level is no self-feedback, and takes the collision branch of the transmitting states'
rule. -/
theorem collisionAbortsTheFrame : Obligations.CollisionAbortsTheFrame := by
  intro l ts s hs htx hlevel
  have hself : selfFeedback l s = false := by simp [selfFeedback, hlevel]
  have hrule : edgeRule l (s.delta ts) (edged ts s) =
      { edged ts s with coll := true, st := .idle, outputs := [.error .collision, .tickRestart] } :=
    (edgeRule_of_isTx (s := edged ts s) htx l _).trans (if_pos hlevel)
  rw [exec_edge_of_started hs, edgeEvent_of_not_selfFeedback hself, hrule]

/-- Settles O32, by `edgeEvent_of_selfFeedback`. -/
theorem selfFeedbackIgnored : Obligations.SelfFeedbackIgnored := by
  intro l ts s hs htx hlevel
  have hself : selfFeedback l s = true := by simp [selfFeedback, htx, hlevel]
  rw [exec_edge_of_started hs, edgeEvent_of_selfFeedback hself]

end Sys2Proof.Machine

/-! PROOFS. EDGE in the receive, idle and fault states: the timing buckets, the start bit, the decoder, and `Activity`. -/

namespace Sys2Proof.Machine

open Sys2Proof

/-! ## The timing buckets (43_edge_receive.md R99) -/

/-- Settles O40: the half window is tested first, and the constraints of R11 keep the full window above it. -/
theorem everyDistanceInOneBucket : Obligations.EveryDistanceInOneBucket := by
  rintro c d ⟨hhalf, hbetween, hfull⟩
  unfold classify
  split
  · simp only [reduceCtorEq, true_iff, false_iff]
    omega
  · split
    · simp only [reduceCtorEq, true_iff, false_iff]
      omega
    · simp only [reduceCtorEq, true_iff, false_iff]
      omega

theorem classify_eq_half_iff {c : Config} {d : BitVec 32} :
    classify c d = .half ↔ c.halfMinUs ≤ d.toNat ∧ d.toNat ≤ c.halfMaxUs := by
  unfold classify
  split
  · next h => exact iff_of_true rfl h
  · next h => exact iff_of_false (by split <;> nofun) h

/-! ## The states outside a transmission (R93 to R98) -/

/-- Outside a transmission no EDGE is self-feedback, so it runs its state rule and emits `Activity` by its level. -/
theorem edgeEvent_of_not_isTx {s : State} (h : isTx s.st = false) (l : Level) (ts : BitVec 32) :
    edgeEvent l ts s =
      { edgeRule l (s.delta ts) (edged ts s) with
        outputs := (edgeRule l (s.delta ts) (edged ts s)).outputs ++ activityOf l } :=
  edgeEvent_of_not_selfFeedback (by simp [selfFeedback, h]) ts

section
variable {s : State} (ts : BitVec 32)

theorem edgeEvent_low_of_waitRx (h : s.st = .waitRx) :
    edgeEvent .low ts s = { edged ts s with st := .rxStart, rxResp := true, outputs := [.tickRestart] } := by
  rw [edgeEvent_of_not_isTx (h ▸ rfl), edgeRule_of_waitRx (s := edged ts s) _ _ h]
  rfl

theorem edgeEvent_high_of_waitRx (h : s.st = .waitRx) :
    edgeEvent .high ts s = { edged ts s with st := .idle, outputs := [.error .cannotBeHigh, .activity] } := by
  rw [edgeEvent_of_not_isTx (h ▸ rfl), edgeRule_of_waitRx (s := edged ts s) _ _ h]
  rfl

theorem edgeEvent_low_of_idle (h : s.st = .idle) :
    edgeEvent .low ts s = { edged ts s with st := .rxStart, rxResp := false } := by
  rw [edgeEvent_of_not_isTx (h ▸ rfl), edgeRule_of_idle (s := edged ts s) _ _ h]
  rfl

theorem edgeEvent_high_of_idle (h : s.st = .idle) : edgeEvent .high ts s = { edged ts s with outputs := [.activity] } := by
  rw [edgeEvent_of_not_isTx (h ▸ rfl), edgeRule_of_idle (s := edged ts s) _ _ h]
  rfl

/-- The end of a valid start bit. -/
theorem edgeEvent_high_of_rxStart (h : s.st = .rxStart) (hd : classify s.cfg (s.delta ts) = .half) :
    edgeEvent .high ts s =
      { edged ts s with
        st := .rxBit, h := 0#8, hWrapped := false, respAcc := 0#16, cmdAcc := 0#32, rxErr := false
        outputs := [.activity] } := by
  rw [edgeEvent_of_not_isTx (h ▸ rfl), edgeRule_of_rxStart (s := edged ts s) _ _ h, edgeRxStart, if_pos ⟨rfl, hd⟩]
  rfl

/-- Any other edge in `RX_START`. -/
theorem edgeEvent_of_rxStart_invalid (h : s.st = .rxStart) {l : Level}
    (hd : ¬ (l = .high ∧ classify s.cfg (s.delta ts) = .half)) :
    edgeEvent l ts s =
      { edged ts s with st := .rxStop, rxErr := true, outputs := [.error .invalidStartBit] ++ activityOf l } := by
  rw [edgeEvent_of_not_isTx (h ▸ rfl), edgeRule_of_rxStart (s := edged ts s) _ _ h, edgeRxStart, if_neg (by exact hd)]
  rfl

/-- The drain only notes an edge (R97). -/
theorem edgeEvent_of_rxStop (h : s.st = .rxStop) (l : Level) :
    edgeEvent l ts s = { edged ts s with outputs := activityOf l } := by
  rw [edgeEvent_of_not_isTx (h ▸ rfl), edgeRule_of_rxStop (s := edged ts s) _ _ h]
  rfl

theorem edgeEvent_of_short (h : s.st = .short) (l : Level) :
    edgeEvent l ts s = { edged ts s with st := if l = .high then .idle else .short, outputs := activityOf l } := by
  rw [edgeEvent_of_not_isTx (h ▸ rfl), edgeRule_of_short (s := edged ts s) _ _ h]
  cases l
  exacts [congrArg (fun b => { edged ts s with st := b, outputs := [] }) h, rfl]

/-- In `RX_BIT` an EDGE is the decoder's step and then the end-of-response test. -/
theorem edgeEvent_of_rxBit (h : s.st = .rxBit) (l : Level) :
    edgeEvent l ts s =
      { endResponse (decoderStep l (s.delta ts) (edged ts s)) with
        outputs := (endResponse (decoderStep l (s.delta ts) (edged ts s))).outputs ++ activityOf l } := by
  rw [edgeEvent_of_not_isTx (h ▸ rfl), edgeRule_of_rxBit (s := edged ts s) _ _ h]
  rfl

end

/-- Settles O33, by the two edges of `WAIT_RX`; the invariant has a clear latch there, which the `HIGH` edge leaves clear. -/
theorem responseWindowEdge : Obligations.ResponseWindowEdge := by
  intro ts s hs hst
  have hhigh : exec (.edge .high ts) s =
      .next { edged ts s with st := .idle, outputs := [.error .cannotBeHigh, .activity] } := by
    rw [exec_edge_of_started hs, edgeEvent_high_of_waitRx ts hst]
  refine ⟨by rw [exec_edge_of_started hs, edgeEvent_low_of_waitRx ts hst], hhigh, fun hinv => ?_⟩
  have hclear : s.LatchClear := hinv.latchClear (.inr hst)
  exact ⟨_, _, hhigh, whenStarted_of_started _ hs, congrArg some (latchedResponse_of_latchClear hclear)⟩

/-- Settles O34, by the two edges of `IDLE`. -/
theorem unsolicitedCaptureStarts : Obligations.UnsolicitedCaptureStarts := by
  intro ts s hs hst
  rw [exec_edge_of_started hs, exec_edge_of_started hs, edgeEvent_low_of_idle ts hst, edgeEvent_high_of_idle ts hst]
  exact ⟨rfl, rfl⟩

/-- Settles O35: the window's test of the rule is the bucket `HALF`. -/
theorem startBitValidated : Obligations.StartBitValidated := by
  intro l ts s hs hst
  rw [exec_edge_of_started hs]
  split
  · next hvalid =>
    obtain ⟨rfl, hhalf⟩ := hvalid
    rw [edgeEvent_high_of_rxStart ts hst (classify_eq_half_iff.2 hhalf)]
  · next hinvalid =>
    rw [edgeEvent_of_rxStart_invalid ts hst (mt (And.imp_right classify_eq_half_iff.1) hinvalid)]

/-- Settles O39, by the rules of `RX_STOP` and of `SHORT`. -/
theorem drainAndShortEdges : Obligations.DrainAndShortEdges := by
  intro l ts s hs
  rw [exec_edge_of_started hs]
  exact ⟨fun hst => by rw [edgeEvent_of_rxStop ts hst], fun hst => by rw [edgeEvent_of_short ts hst],
    fun hst => exec_tick_of_short hs hst l⟩

/-! ## The decoder (R96, R100) -/

/-- The shift field by field: the accumulator of the mode takes the level, the other stays (10_state.md R23). -/
theorem shiftIn_eq (l : Level) (s : State) :
    s.shiftIn l =
      { s with
        respAcc := if s.rxResp = true then s.respAcc <<< 1 ||| (bitOfLevel l).setWidth 16 else s.respAcc
        cmdAcc := if s.rxResp = true then s.cmdAcc else s.cmdAcc <<< 1 ||| (bitOfLevel l).setWidth 32 } := by
  unfold State.shiftIn
  split <;> rfl

/-- The shift of a half-bit edge, which only an odd count has. -/
theorem shiftIn_if_odd_eq (l : Level) (s : State) :
    (if halfBitOdd s then s.shiftIn l else s) =
      { s with
        respAcc := if s.h.toNat % 2 = 1 ∧ s.rxResp = true then s.respAcc <<< 1 ||| (bitOfLevel l).setWidth 16 else s.respAcc
        cmdAcc := if s.h.toNat % 2 = 1 ∧ s.rxResp = false then s.cmdAcc <<< 1 ||| (bitOfLevel l).setWidth 32
          else s.cmdAcc } := by
  split
  · next hodd =>
    rw [shiftIn_eq]
    cases s.rxResp <;> simp [(halfBitOdd_iff s).1 hodd]
  · next heven => simp [mt (halfBitOdd_iff s).2 heven]

/-- The end-of-response test of a decoder that has met no error. -/
theorem endResponse_of_rxBit {s : State} (h : s.st = .rxBit) :
    endResponse s = s.goto (if s.rxResp = true ∧ 16 ≤ s.h.toNat then .rxStop else .rxBit) := by
  simp [endResponse_eq, responseComplete, h, respHalfBits, BitVec.le_def]

theorem decoderStep_of_half {d : BitVec 32} {s : State} (hd : classify s.cfg d = .half) (l : Level) :
    decoderStep l d s = (if halfBitOdd s then s.shiftIn l else s).addHalfBits 1#8 := by
  simp only [decoderStep, hd]

theorem decoderStep_of_full {d : BitVec 32} {s : State} (hd : classify s.cfg d = .full) (l : Level) :
    decoderStep l d s = (s.shiftIn l).addHalfBits 2#8 := by
  simp only [decoderStep, hd]

theorem decoderStep_of_neither {d : BitVec 32} {s : State} (hd : classify s.cfg d = .neither) (l : Level) :
    decoderStep l d s = (s.raiseError .timing).markErrored.goto .rxStop := by
  simp only [decoderStep, hd]

section
variable {s : State} {ts : BitVec 32} (hst : s.st = .rxBit) (l : Level)
include hst

theorem edgeEvent_of_half (hd : classify s.cfg (s.delta ts) = .half) :
    edgeEvent l ts s =
      { edged ts s with
        respAcc := if s.h.toNat % 2 = 1 ∧ s.rxResp = true then s.respAcc <<< 1 ||| (bitOfLevel l).setWidth 16 else s.respAcc
        cmdAcc := if s.h.toNat % 2 = 1 ∧ s.rxResp = false then s.cmdAcc <<< 1 ||| (bitOfLevel l).setWidth 32 else s.cmdAcc
        h := s.h + 1#8
        hWrapped := s.hWrapped || decide (256 ≤ s.h.toNat + 1)
        st := if s.rxResp = true ∧ 16 ≤ (s.h + 1#8).toNat then .rxStop else .rxBit
        outputs := activityOf l } := by
  rw [edgeEvent_of_rxBit ts hst, decoderStep_of_half (s := edged ts s) hd, shiftIn_if_odd_eq,
    endResponse_of_rxBit (by exact hst)]
  rfl

theorem edgeEvent_of_full (hd : classify s.cfg (s.delta ts) = .full) :
    edgeEvent l ts s =
      { edged ts s with
        respAcc := if s.rxResp = true then s.respAcc <<< 1 ||| (bitOfLevel l).setWidth 16 else s.respAcc
        cmdAcc := if s.rxResp = true then s.cmdAcc else s.cmdAcc <<< 1 ||| (bitOfLevel l).setWidth 32
        h := s.h + 2#8
        hWrapped := s.hWrapped || decide (256 ≤ s.h.toNat + 2)
        st := if s.rxResp = true ∧ 16 ≤ (s.h + 2#8).toNat then .rxStop else .rxBit
        outputs := activityOf l } := by
  rw [edgeEvent_of_rxBit ts hst, decoderStep_of_full (s := edged ts s) hd, shiftIn_eq,
    endResponse_of_rxBit (by exact hst)]
  rfl

theorem edgeEvent_of_neither (hd : classify s.cfg (s.delta ts) = .neither) :
    edgeEvent l ts s = { edged ts s with st := .rxStop, rxErr := true, outputs := [.error .timing] ++ activityOf l } := by
  rw [edgeEvent_of_rxBit ts hst, decoderStep_of_neither (s := edged ts s) hd]
  rfl

end

/-- Settles O36, by `edgeEvent_of_half`. -/
theorem decoderHalfBitEdge : Obligations.DecoderHalfBitEdge := by
  intro l ts s hs hst hd
  rw [exec_edge_of_started hs, edgeEvent_of_half hst l hd]

/-- Settles O37, by `edgeEvent_of_full`. -/
theorem decoderFullBitEdge : Obligations.DecoderFullBitEdge := by
  intro l ts s hs hst hd
  rw [exec_edge_of_started hs, edgeEvent_of_full hst l hd]

/-- Settles O38, by `edgeEvent_of_neither`. -/
theorem decoderTimingFault : Obligations.DecoderTimingFault := by
  intro l ts s hs hst hd
  rw [exec_edge_of_started hs, edgeEvent_of_neither hst l hd]

/-! ## `Activity` (R101) -/

theorem activityFires_iff {l : Level} {s : State} :
    activityFires l s = true ↔ l = .high ∧ ¬ (isTx s.st = true ∧ s.txLevel = .high) := by
  simp only [activityFires, selfFeedback, Bool.and_eq_true, beq_iff_eq, Bool.not_eq_true', Bool.and_eq_false_iff]
  grind

/-- The one notification of the state table is a `Frame` (41_tick.md R82). -/
theorem tickTable_outputs (s : State) :
    (tickTable s).outputs = s.outputs ∨ ∃ b0 b1 b2 len, (tickTable s).outputs = s.outputs ++ [.frame b0 b1 b2 len] := by
  cases hst : s.st <;> simp only [tickTable, hst]
  case txStart1st => unfold tickTxStart1st; split <;> exact .inl rfl
  case txBit1st => unfold tickTxBit1st; split <;> exact .inl rfl
  case txBit2nd => rw [tickTxBit2nd_eq]; exact .inl rfl
  case txStop => unfold tickTxStop; split <;> exact .inl rfl
  case waitRx => unfold tickWaitRx; split <;> exact .inl rfl
  case rxStop => unfold tickRxStop; split <;> exact .inl rfl
  case rxStart | rxBit =>
    unfold tickRxEnd
    split
    · split
      · rcases deliverFrame_eq s with ⟨_, _, _, -, h⟩ | ⟨-, _, _, _, h⟩ <;> exact .inr ⟨_, _, _, _, by rw [h]; rfl⟩
      · exact .inl rfl
    · exact .inl rfl
  case txStart2nd | txStop1st => exact .inl rfl
  case idle | short => exact .inl trivial

/-- No state rule of EDGE emits `Activity`: what the rules emit is an `Error` or a `TickRestart`. -/
theorem activity_notMem_edgeRule (l : Level) (d : BitVec 32) {s : State} (hs : Notification.activity ∉ s.outputs) :
    Notification.activity ∉ (edgeRule l d s).outputs := by
  cases hst : s.st
  case txStart1st | txStart2nd | txBit1st | txBit2nd | txStop1st | txStop =>
    rw [edgeRule_of_isTx (hst ▸ rfl), edgeTx]
    split <;> simp [hs]
  case waitRx => rw [edgeRule_of_waitRx l d hst]; cases l <;> simp [edgeWaitRx, hs]
  case idle => rw [edgeRule_of_idle l d hst]; cases l <;> exact hs
  case rxStart => rw [edgeRule_of_rxStart l d hst, edgeRxStart]; split <;> simp [hs]
  case rxBit =>
    rw [edgeRule_of_rxBit l d hst, edgeRxBit, endResponse_eq, decoderStep]
    split
    · split <;> simp [hs]
    · simp [hs]
    · simp [hs]
  case rxStop => rwa [edgeRule_of_rxStop l d hst]
  case short => rw [edgeRule_of_short l d hst]; cases l <;> exact hs

/-- No event but an EDGE emits `Activity`. -/
theorem activity_notMem_of_exec {i : Instr} {s t : State} (h : exec i s = .next t) (hi : ∀ l ts, i ≠ .edge l ts) :
    Notification.activity ∉ t.outputs := by
  cases i with
  | begin p => obtain ⟨-, rfl⟩ := whenUnstarted_eq_next_iff.1 h; simp [beginEvent]
  | tick l =>
    obtain ⟨-, rfl⟩ := whenStarted_eq_next_iff.1 h
    by_cases hlow : StuckLow l s
    · simp [tickEvent_of_stuckLow hlow, tickPulldown, ticked]
    · rw [tickEvent_of_not_stuckLow hlow]
      rcases tickTable_outputs (ticked s) with hout | ⟨_, _, _, _, hout⟩ <;> rw [hout] <;> simp [ticked]
  | edge l ts => exact absurd rfl (hi l ts)
  | send n b0 b1 b2 b3 =>
    obtain ⟨-, rfl⟩ := whenStarted_eq_next_iff.1 h
    unfold sendEvent
    split
    · simp [sendReject]
    · split <;> simp [sendReject, sendAccept]
  | readResponse => obtain ⟨-, rfl⟩ := whenStarted_eq_next_iff.1 h; simp [readEvent]
  | isIdle => obtain ⟨-, rfl⟩ := whenStarted_eq_next_iff.1 h; simp [isIdleEvent]

/-- Settles O42: an EDGE puts `Activity` after the notifications of its state rule, none of which is one, and no other event
emits it. -/
theorem activityExactlyOnUnexplainedHigh : Obligations.ActivityExactlyOnUnexplainedHigh := by
  intro i s t h
  by_cases hi : ∃ l ts, i = .edge l ts
  · obtain ⟨l, ts, rfl⟩ := hi
    obtain ⟨-, rfl⟩ := whenStarted_eq_next_iff.1 h
    have hrule : Notification.activity ∉ (edgeRule l (s.delta ts) (edged ts s)).outputs :=
      activity_notMem_edgeRule l _ List.not_mem_nil
    have hfires : (∃ ts', Instr.edge l ts = .edge .high ts' ∧ ¬ (isTx s.st = true ∧ s.txLevel = .high)) ↔
        activityFires l s = true := by
      simp [activityFires_iff]
    rw [hfires, edgeEvent_eq]
    split
    · next hf => simp [hf, List.count_eq_zero_of_not_mem hrule]
    · next hf => simp [hf, hrule]
  · have hnone : Notification.activity ∉ t.outputs := activity_notMem_of_exec h fun l ts e => hi ⟨l, ts, e⟩
    exact ⟨iff_of_false hnone fun ⟨ts, e, _⟩ => hi ⟨_, ts, e⟩, fun hmem => absurd hmem hnone⟩

end Sys2Proof.Machine

/-! PROOFS. Whole receptions: the record after the edges of a frame, and the frame's bits in the accumulator. -/

namespace Sys2Proof.Machine

open Sys2Proof

/-! ## The edges of a reception, without what falls between them -/

/-- The three bus states of a reception: the start bit, the data bits and the drain. -/
def InReception (b : BusState) : Prop := b = .rxStart ∨ b = .rxBit ∨ b = .rxStop

/-- The state after the edges of some arrivals, their gaps left out. -/
def afterEdges : List Arrival → State → State
  | [], s => s
  | a :: as, s => afterEdges as (edgeEvent a.level (s.lastTs + a.distance) s)

theorem afterEdges_append (as bs : List Arrival) (s : State) :
    afterEdges (as ++ bs) s = afterEdges bs (afterEdges as s) := by
  induction as generalizing s with
  | nil => rfl
  | cons a as ih => exact ih _

/-- A property that each edge keeps holds after all of them. -/
theorem afterEdges_induction {P : State → Prop} (edge_keeps : ∀ l ts s, P s → P (edgeEvent l ts s)) (as : List Arrival)
    {s : State} (hs : P s) : P (afterEdges as s) := by
  induction as generalizing s with
  | nil => exact hs
  | cons a as ih => exact ih (edge_keeps _ _ s hs)

/-- The time since the last edge is the distance that an arrival adds to its timestamp. -/
theorem delta_lastTs_add (s : State) (d : BitVec 32) : s.delta (s.lastTs + d) = d := by
  simp [State.delta, BitVec.add_comm s.lastTs]

@[simp] theorem edgeEvent_started (l : Level) (ts : BitVec 32) (s : State) : (edgeEvent l ts s).started = s.started := by
  rw [edgeEvent_eq]
  exact (edgeRule_keeps l (s.delta ts) (edged ts s)).1

@[simp] theorem edgeEvent_idle (l : Level) (ts : BitVec 32) (s : State) : (edgeEvent l ts s).idle = 0#8 := by
  rw [edgeEvent_eq]
  exact (edgeRule_keeps l (s.delta ts) (edged ts s)).2.1

/-- No EDGE ends a reception: it leads on to the data bits or to the drain, whether it is valid or not. -/
theorem edgeEvent_inReception {s : State} (hst : InReception s.st) (l : Level) (ts : BitVec 32) :
    InReception (edgeEvent l ts s).st := by
  rcases hst with hst | hst | hst
  · by_cases hd : l = .high ∧ classify s.cfg (s.delta ts) = .half
    · obtain ⟨rfl, hhalf⟩ := hd
      rw [edgeEvent_high_of_rxStart ts hst hhalf]
      exact .inr (.inl rfl)
    · rw [edgeEvent_of_rxStart_invalid ts hst hd]
      exact .inr (.inr rfl)
  · have hrule := decoderStep_st l (s.delta ts) (edged ts s)
    rw [edgeEvent_of_rxBit ts hst, endResponse_eq]
    show InReception (if _ then _ else _)
    split
    · exact .inr (.inr rfl)
    · exact .inr (hrule.imp_left (·.trans hst))
  · rw [edgeEvent_of_rxStop ts hst]
    exact .inr (.inr hst)

/-- The gaps of a reception leave no trace in the state after its edges: they write `idle` and the outputs of their events,
which the next EDGE writes again. -/
theorem execAll_arrivals {as : List Arrival} : ∀ {s : State}, s.started = true → InReception s.st →
    gapsQuiet s.idle.toNat as = true → execAll (arrivals s.lastTs as) s = .next (afterEdges as s) := by
  induction as with
  | nil => exact fun _ _ _ => rfl
  | cons a as ih =>
    intro s hs hst hquiet
    obtain ⟨hgap, hrest⟩ : quietGap s.idle.toNat a.gap = true ∧ gapsQuiet 0 as = true := by
      simpa [gapsQuiet] using hquiet
    obtain ⟨k, r, o, hrun, -⟩ := execAll_quietGap hs hst hgap
    have hedge : execAll (a.gap ++ [.edge a.level (s.lastTs + a.distance)]) s =
        .next (edgeEvent a.level (s.lastTs + a.distance) s) := by
      rw [execAll_append_of_next hrun]
      exact execAll_cons_of_next (exec_edge_of_started hs _ _) []
    have hih := ih (s := edgeEvent a.level (s.lastTs + a.distance) s) (by simpa using hs) (edgeEvent_inReception hst _ _)
      (by simpa using hrest)
    rw [edgeEvent_lastTs] at hih
    rw [arrivals_cons, execAll_append_of_next hedge, hih, afterEdges]

/-! ## The edges of a frame, bit by bit (43_edge_receive.md R102) -/

/-- The edges of one data bit after a bit that left the level `p`: two where the bit repeats it, one where it differs. -/
def bitEdges (p : Level) (b : Bool) : List (Timing × Level) :=
  if levelOfBit b = p then [(.half, oppositeLevel p), (.half, levelOfBit b)] else [(.full, levelOfBit b)]

/-- The edges of some data bits, the return to `HIGH` after the last left out. -/
def dataEdges : Level → List Bool → List (Timing × Level)
  | _, [] => []
  | p, b :: bs => bitEdges p b ++ dataEdges (levelOfBit b) bs

/-- The level that some data bits leave. -/
def lastLevel (p : Level) (bits : List Bool) : Level := (bits.getLast?.map levelOfBit).getD p

theorem lastLevel_cons (p : Level) (b : Bool) (bs : List Bool) : lastLevel p (b :: bs) = lastLevel (levelOfBit b) bs := by
  rw [lastLevel, lastLevel, List.getLast?_cons]
  cases bs.getLast? <;> rfl

theorem lastLevel_high_eq_low_iff (bits : List Bool) : lastLevel .high bits = .low ↔ bits.getLast? = some false := by
  rw [lastLevel]
  cases bits.getLast? with
  | none => decide
  | some b => cases b <;> decide

theorem frameEdges_cons (p : Level) (b : Bool) (bs : List Bool) :
    frameEdges p (b :: bs) = bitEdges p b ++ frameEdges (levelOfBit b) bs := by
  cases p <;> cases b <;> rfl

theorem frameEdges_append (p : Level) (xs ys : List Bool) :
    frameEdges p (xs ++ ys) = dataEdges p xs ++ frameEdges (lastLevel p xs) ys := by
  induction xs generalizing p with
  | nil => rfl
  | cons x xs ih => rw [List.cons_append, frameEdges_cons, ih, dataEdges, List.append_assoc, lastLevel_cons]

theorem timedAs_nil_iff {c : Config} {as : List Arrival} : timedAs c as [] ↔ as = [] := List.map_eq_nil_iff

theorem timedAs_cons_iff {c : Config} {as : List Arrival} {bucket : Timing} {l : Level} {want : List (Timing × Level)} :
    timedAs c as ((bucket, l) :: want) ↔
      ∃ a as', as = a :: as' ∧ classify c a.distance = bucket ∧ a.level = l ∧ timedAs c as' want := by
  simp [timedAs, List.map_eq_cons_iff, and_assoc]

theorem timedAs_append_iff {c : Config} {as : List Arrival} {want want' : List (Timing × Level)} :
    timedAs c as (want ++ want') ↔ ∃ as₁ as₂, as = as₁ ++ as₂ ∧ timedAs c as₁ want ∧ timedAs c as₂ want' :=
  List.map_eq_append_iff

/-! ## The decoder along a frame (R96, R100, R102) -/

/-- The decoder has taken in the bits `got` and counted `k` half-bits, in a reception whose mode, windows and marks are those
of `s₀`; a response has ended if `k` is 16 or more. -/
structure Decoding (s₀ : State) (got : List Bool) (k : Nat) (s : State) : Prop where
  cfg : s.cfg = s₀.cfg
  rxResp : s.rxResp = s₀.rxResp
  rxErr : s.rxErr = s₀.rxErr
  hWrapped : s.hWrapped = s₀.hWrapped
  st : s.st = if s₀.rxResp = true ∧ 16 ≤ k then .rxStop else .rxBit
  count : s.h.toNat = k
  acc : s.accValue s₀.rxResp = bitsValue got % accRoom s₀.rxResp

/-- A bit at the end of some bits, in an accumulator that holds their value modulo its room. -/
theorem bitsValue_concat_mod (bits : List Bool) (b : Bool) (n : Nat) :
    (2 * (bitsValue bits % n) + (bitOfLevel (levelOfBit b)).toNat) % n = bitsValue (bits ++ [b]) % n := by
  have hbit : (bitOfLevel (levelOfBit b)).toNat = b.toNat := by cases b <;> rfl
  rw [hbit, bitsValue_concat, Nat.bit_val, Nat.add_mod, Nat.mul_mod_mod, ← Nat.add_mod]

namespace Decoding

variable {s₀ s : State} {got : List Bool} {k : Nat} {ts : BitVec 32}

theorem st_of_open (hs : Decoding s₀ got k s) (hopen : s₀.rxResp = true → k < 16) : s.st = .rxBit :=
  hs.st.trans (if_neg fun h => Nat.not_le.2 (hopen h.1) h.2)

theorem begin (hst : s.st = .rxBit) (hh : s.h = 0#8) (hacc : s.accValue s.rxResp = 0) : Decoding s [] 0 s :=
  ⟨rfl, rfl, rfl, rfl, by simp [hst], by simp [hh], hacc.trans (Nat.zero_mod _).symm⟩

theorem edged (hs : Decoding s₀ got k s) (ts : BitVec 32) : Decoding s₀ got k (edged ts s) := { hs with }

/-- A shift takes in one bit. -/
theorem shiftIn (hs : Decoding s₀ got k s) (b : Bool) : Decoding s₀ (got ++ [b]) k (s.shiftIn (levelOfBit b)) := by
  obtain ⟨hcfg, hresp, herr, hwrap, hst, hcount, hacc⟩ := hs
  refine ⟨by simpa, by simpa, by simpa, by simpa, by simpa, by simpa, ?_⟩
  rw [← bitsValue_concat_mod, ← hacc, ← hresp, shiftIn_accValue]

/-- The rest of an edge in a window: the half-bits are counted, and a response ends if they are 16 or more. -/
theorem advance {u : State} {n : BitVec 8} {l : Level} (hst : s.st = .rxBit)
    (hstep : decoderStep l (s.delta ts) (Machine.edged ts s) = u.addHalfBits n) (hu : Decoding s₀ got k u)
    (hopen : s₀.rxResp = true → k < 16) (hroom : k + n.toNat < 256) :
    Decoding s₀ got (k + n.toNat) (edgeEvent l ts s) := by
  have hcount : (u.addHalfBits n).h.toNat = k + n.toNat := by
    rw [addHalfBits_h_toNat (by rwa [hu.count]), hu.count]
  have hopenBit : (u.addHalfBits n).st = .rxBit := hu.st_of_open hopen
  have hwrap : (u.addHalfBits n).hWrapped = u.hWrapped := by
    rw [addHalfBits_hWrapped, hu.count, decide_eq_false (Nat.not_le.2 hroom), Bool.or_false]
  rw [edgeEvent_of_rxBit ts hst, hstep, endResponse_of_rxBit hopenBit]
  exact ⟨hu.cfg, hu.rxResp, hu.rxErr, hwrap.trans hu.hWrapped, by rw [← hu.rxResp, ← hcount]; rfl, hcount, hu.acc⟩

/-- A half-bit edge at an even count shifts nothing. -/
theorem half_even (hs : Decoding s₀ got k s) (hopen : s₀.rxResp = true → k < 16) (hroom : k + 1 < 256) (heven : k % 2 = 0)
    (hd : classify s₀.cfg (s.delta ts) = .half) (l : Level) : Decoding s₀ got (k + 1) (edgeEvent l ts s) := by
  have heven' : ¬ halfBitOdd (Machine.edged ts s) = true := by
    rw [halfBitOdd_iff, (hs.edged ts).count]
    omega
  refine advance (n := 1#8) (hs.st_of_open hopen) ?_ (hs.edged ts) hopen hroom
  rw [decoderStep_of_half ((hs.edged ts).cfg ▸ hd), if_neg heven']

/-- A half-bit edge at an odd count ends a bit. -/
theorem half_odd (hs : Decoding s₀ got k s) (hopen : s₀.rxResp = true → k < 16) (hroom : k + 1 < 256) (hodd : k % 2 = 1)
    (hd : classify s₀.cfg (s.delta ts) = .half) (b : Bool) :
    Decoding s₀ (got ++ [b]) (k + 1) (edgeEvent (levelOfBit b) ts s) := by
  have hodd' : halfBitOdd (Machine.edged ts s) = true := by rwa [halfBitOdd_iff, (hs.edged ts).count]
  refine advance (n := 1#8) (hs.st_of_open hopen) ?_ ((hs.edged ts).shiftIn b) hopen hroom
  rw [decoderStep_of_half ((hs.edged ts).cfg ▸ hd), if_pos hodd']

/-- A full-bit edge ends a bit. -/
theorem full (hs : Decoding s₀ got k s) (hopen : s₀.rxResp = true → k < 16) (hroom : k + 2 < 256)
    (hd : classify s₀.cfg (s.delta ts) = .full) (b : Bool) :
    Decoding s₀ (got ++ [b]) (k + 2) (edgeEvent (levelOfBit b) ts s) := by
  refine advance (n := 2#8) (hs.st_of_open hopen) ?_ ((hs.edged ts).shiftIn b) hopen hroom
  rw [decoderStep_of_full ((hs.edged ts).cfg ▸ hd)]

/-- The edges of one data bit, from between two bits. -/
theorem bit (hs : Decoding s₀ got (2 * got.length) s) (hopen : s₀.rxResp = true → got.length < 8)
    (hroom : got.length < 127) {p : Level} {b : Bool} {as : List Arrival} (htimed : timedAs s₀.cfg as (bitEdges p b)) :
    Decoding s₀ (got ++ [b]) (2 * (got ++ [b]).length) (afterEdges as s) := by
  have hlen : 2 * (got ++ [b]).length = 2 * got.length + 2 := by simp [Nat.mul_add]
  rw [hlen]
  unfold bitEdges at htimed
  split at htimed
  · obtain ⟨a, as, rfl, hboundary, -, htimed⟩ := timedAs_cons_iff.1 htimed
    obtain ⟨a', as, rfl, hmid, hlevel, htimed⟩ := timedAs_cons_iff.1 htimed
    obtain rfl := timedAs_nil_iff.1 htimed
    have hfirst : Decoding s₀ got (2 * got.length + 1) (edgeEvent a.level (s.lastTs + a.distance) s) :=
      hs.half_even (fun h => by have := hopen h; omega) (by omega) (by omega) (by rwa [delta_lastTs_add]) _
    rw [afterEdges, afterEdges, hlevel]
    exact hfirst.half_odd (fun h => by have := hopen h; omega) (by omega) (by omega) (by rwa [delta_lastTs_add]) b
  · obtain ⟨a, as, rfl, hmid, hlevel, htimed⟩ := timedAs_cons_iff.1 htimed
    obtain rfl := timedAs_nil_iff.1 htimed
    rw [afterEdges, hlevel]
    exact hs.full (fun h => by have := hopen h; omega) (by omega) (by rwa [delta_lastTs_add]) b

/-- The edges of data bits, up to the 127 that `h` can count, or to the eighth of a response. -/
theorem dataBits {bits : List Bool} : ∀ {got : List Bool} {s : State} {p : Level} {as : List Arrival},
    Decoding s₀ got (2 * got.length) s → (s₀.rxResp = true → got.length + bits.length ≤ 8) →
    got.length + bits.length ≤ 127 → timedAs s₀.cfg as (dataEdges p bits) →
    Decoding s₀ (got ++ bits) (2 * (got ++ bits).length) (afterEdges as s) := by
  induction bits with
  | nil =>
    intro got s p as hs _ _ htimed
    obtain rfl := timedAs_nil_iff.1 htimed
    rwa [List.append_nil]
  | cons b bs ih =>
    intro got s p as hs hopen hroom htimed
    obtain ⟨as₁, as₂, rfl, hbit, hrest⟩ := timedAs_append_iff.1 htimed
    rw [List.length_cons] at hopen hroom
    have hnext := hs.bit (fun h => by have := hopen h; omega) (by omega) hbit
    rw [afterEdges_append, List.append_cons]
    refine ih hnext (fun h => ?_) ?_ hrest
    · have := hopen h
      rw [List.length_append, List.length_singleton]
      omega
    · rw [List.length_append, List.length_singleton]
      omega

/-- The return to `HIGH` after the last data bit: a half-bit edge at an even count, or nothing. -/
theorem stopEdge (hs : Decoding s₀ got (2 * got.length) s) (hopen : s₀.rxResp = true → got.length < 8)
    (hroom : got.length ≤ 127) {as : List Arrival} (htimed : timedAs s₀.cfg as (frameEdges (lastLevel .high got) [])) :
    Decoding s₀ got (frameHalfBits got) (afterEdges as s) := by
  simp only [frameHalfBits, ← lastLevel_high_eq_low_iff]
  cases hlast : lastLevel .high got with
  | high =>
    obtain rfl := timedAs_nil_iff.1 (hlast ▸ htimed)
    exact hs
  | low =>
    rw [hlast] at htimed
    obtain ⟨a, as, rfl, hd, -, htimed⟩ := timedAs_cons_iff.1 htimed
    obtain rfl := timedAs_nil_iff.1 htimed
    exact hs.half_even (fun h => by have := hopen h; omega) (by omega) (by omega) (by rwa [delta_lastTs_add]) _

/-- The edges of a whole frame, of fewer than eight bits in response mode. -/
theorem frame (hs : Decoding s₀ [] 0 s) {bits : List Bool} (hopen : s₀.rxResp = true → bits.length < 8)
    (hroom : bits.length ≤ 127) {as : List Arrival} (htimed : timedAs s₀.cfg as (frameEdges .high bits)) :
    Decoding s₀ bits (frameHalfBits bits) (afterEdges as s) := by
  rw [← List.append_nil bits, frameEdges_append] at htimed
  obtain ⟨as₁, as₂, rfl, hdata, hstop⟩ := timedAs_append_iff.1 htimed
  have hbits : Decoding s₀ bits (2 * bits.length) (afterEdges as₁ s) :=
    dataBits (got := []) hs (fun h => by simpa using (hopen h).le) (by simpa using hroom) hdata
  rw [afterEdges_append]
  exact hbits.stopEdge hopen hroom hstop

/-- An edge of the drain writes nothing of the reception (R97). -/
theorem drained (hs : Decoding s₀ got k s) (hst : s.st = .rxStop) (l : Level) (ts : BitVec 32) :
    Decoding s₀ got k (edgeEvent l ts s) := by
  rw [edgeEvent_of_rxStop ts hst]
  exact { hs with }

/-- The edges of a response of eight bits or more: the eighth ends it, and what follows is drained. -/
theorem response (hs : Decoding s₀ [] 0 s) (hresp : s₀.rxResp = true) {bits : List Bool} (hlen : 8 ≤ bits.length)
    {as : List Arrival} (htimed : timedAs s₀.cfg as (frameEdges .high bits)) :
    Decoding s₀ (bits.take 8) 16 (afterEdges as s) := by
  have htake : (bits.take 8).length = 8 := List.length_take_of_le hlen
  rw [← List.take_append_drop 8 bits, frameEdges_append] at htimed
  obtain ⟨as₁, as₂, rfl, hdata, -⟩ := timedAs_append_iff.1 htimed
  have hbits : Decoding s₀ (bits.take 8) (2 * (bits.take 8).length) (afterEdges as₁ s) :=
    dataBits (got := []) hs (by simp [htake]) (by simp [htake]) hdata
  rw [htake] at hbits
  rw [afterEdges_append]
  exact afterEdges_induction (fun l ts u hu => hu.drained (hu.st.trans (if_pos ⟨hresp, le_rfl⟩)) l ts) as₂ hbits

theorem cmdAcc_eq (hs : Decoding s₀ got k s) (hresp : s₀.rxResp = false) : s.cmdAcc = BitVec.ofNat 32 (bitsValue got) :=
  BitVec.eq_of_toNat_eq (by simpa [State.accValue, accRoom, hresp] using hs.acc)

theorem respAcc_eq (hs : Decoding s₀ got k s) (hresp : s₀.rxResp = true) : s.respAcc = BitVec.ofNat 16 (bitsValue got) :=
  BitVec.eq_of_toNat_eq (by simpa [State.accValue, accRoom, hresp] using hs.acc)

end Decoding

/-- The half-bits of a frame count its bits: the stop edge leaves no whole bit (10_state.md R29). -/
theorem frameHalfBits_div_two (bits : List Bool) : frameHalfBits bits / 2 = bits.length := by
  unfold frameHalfBits
  split <;> omega

/-- A frame leaves a response open while it has fewer than eight bits, its stop edge counted. -/
theorem frameHalfBits_lt_iff (bits : List Bool) : frameHalfBits bits < 16 ↔ bits.length < 8 := by
  rw [← frameHalfBits_div_two]
  omega

/-- Settles O44: the gaps leave no trace, and the edges of the frame are decoded bit by bit; in response mode those after the
eighth bit are drained. -/
theorem decoderRecoversTheFrame : Obligations.DecoderRecoversTheFrame := by
  intro bits es s hs hst hh htimed hquiet
  have hrun := execAll_arrivals hs (.inr (.inl hst)) hquiet
  refine ⟨fun hresp hacc hroom => ⟨_, hrun, ?_⟩, fun hresp hacc => ⟨_, hrun, ?_⟩⟩
  · have hbegin : Decoding s [] 0 s := .begin hst hh (by simp [State.accValue, hresp, hacc])
    have hframe := hbegin.frame (by simp [hresp]) hroom htimed
    exact ⟨hframe.st_of_open (by simp [hresp]), hframe.rxErr, hframe.hWrapped, hframe.cmdAcc_eq hresp, hframe.count,
      by rw [hframe.count, frameHalfBits_div_two]⟩
  · have hbegin : Decoding s [] 0 s := .begin hst hh (by simp [State.accValue, hresp, hacc])
    by_cases hlen : 8 ≤ bits.length
    · have hframe := hbegin.response hresp hlen htimed
      have hbound := mt (frameHalfBits_lt_iff bits).1 (Nat.not_lt.2 hlen)
      exact ⟨by simpa [hresp, hlen] using hframe.st, hframe.rxErr, hframe.hWrapped, hframe.respAcc_eq hresp,
        by rw [hframe.count, min_eq_left (Nat.not_lt.1 hbound)]⟩
    · have hshort : bits.length < 8 := Nat.not_le.1 hlen
      have hframe := hbegin.frame (fun _ => hshort) (by omega) htimed
      have hbound := (frameHalfBits_lt_iff bits).2 hshort
      exact ⟨by rw [if_neg hlen]; exact hframe.st_of_open fun _ => hbound, hframe.rxErr, hframe.hWrapped,
        by rw [List.take_of_length_le hshort.le]; exact hframe.respAcc_eq hresp,
        by rw [hframe.count, min_eq_right hbound.le]⟩

end Sys2Proof.Machine

/-! PROOFS. A command frame is delivered, and a response is read once. -/

namespace Sys2Proof.Machine

open Sys2Proof

/-! ## A reception from its first edge -/

theorem afterEdges_started (es : List Arrival) {s : State} (hs : s.started = true) : (afterEdges es s).started = true :=
  afterEdges_induction (P := fun s => s.started = true) (fun l ts s hs => (edgeEvent_started l ts s).trans hs) es hs

theorem afterEdges_idle (es : List Arrival) {s : State} (hs : s.idle = 0#8) : (afterEdges es s).idle = 0#8 :=
  afterEdges_induction (P := fun s => s.idle = 0#8) (fun l ts s _ => edgeEvent_idle l ts s) es hs

/-- The first edge of a reception, and its first arrival, which ends a valid start bit: what follows is decoded from a clear
latch and empty accumulators (43_edge_receive.md R95). -/
theorem execAll_startBit {s s₁ : State} {t₀ : BitVec 32} {es : List Arrival} {want : List (Timing × Level)}
    (hs : s.started = true) (hlow : edgeEvent .low t₀ s = s₁) (hst : s₁.st = .rxStart) (hquiet : gapsQuiet 0 es = true)
    (htimed : timedAs s₁.cfg es ((.half, .high) :: want)) :
    ∃ v u es', execAll (.edge .low t₀ :: arrivals t₀ es) s = .next v ∧ v.started = true ∧ v.idle = 0#8 ∧
      v = afterEdges es' u ∧ Decoding s₁.clearLatch [] 0 u ∧ timedAs s₁.clearLatch.cfg es' want := by
  subst hlow
  have hstarted : (edgeEvent .low t₀ s).started = true := (edgeEvent_started .low t₀ s).trans hs
  have hrun := execAll_arrivals (as := es) hstarted (.inl hst) (by simpa using hquiet)
  rw [edgeEvent_lastTs] at hrun
  obtain ⟨a, es', rfl, hd, hlevel, htimed⟩ := timedAs_cons_iff.1 htimed
  refine ⟨_, _, es', (execAll_cons_of_next (exec_edge_of_started hs .low t₀) _).trans hrun, afterEdges_started _ hstarted,
    afterEdges_idle _ (edgeEvent_idle .low t₀ s), rfl, ?_, htimed⟩
  rw [hlevel, edgeEvent_high_of_rxStart _ hst (by rwa [delta_lastTs_add])]
  refine ⟨rfl, rfl, rfl, rfl, (if_neg (by simp)).symm, rfl, ?_⟩
  rw [State.accValue, bitsValue, List.foldl_nil, Nat.zero_mod]
  split <;> rfl

/-! ## The TICKs after a reception -/

theorem tickCount_map_tick (levels : List Level) : tickCount (levels.map .tick) = levels.length := by
  induction levels with
  | nil => rfl
  | cons l ls ih => rw [List.map_cons, tickCount_cons, ih]; rfl

/-- Up to three TICKs after an edge are a quiet gap. -/
theorem quietGap_map_tick {n : Nat} {levels : List Level} (h : n + levels.length ≤ 3) :
    quietGap n (levels.map .tick) = true := by
  rw [quietGap_iff, tickCount_map_tick]
  exact ⟨List.forall_mem_map.2 fun _ _ => rfl, .inr h⟩

/-- TICKs, however many, leave the latch and the response (41_tick.md R71). -/
theorem execAll_map_tick (levels : List Level) : ∀ {s : State}, s.started = true →
    ∃ t, execAll (levels.map .tick) s = .next t ∧ t.started = true ∧ SameLatch s t ∧ t.respAcc = s.respAcc := by
  induction levels with
  | nil => exact fun {s} hs => ⟨s, rfl, hs, .refl s, rfl⟩
  | cons l ls ih =>
    intro s hs
    have htick : exec (.tick l) s = .next (tickEvent l s) := whenStarted_of_started _ hs
    obtain ⟨hstarted, -, -, -, -, -, herr, hh, hacc, -, -, -, -, -, hwrap, -⟩ := tickFrame l s _ htick
    obtain ⟨t, hrun, ht, ⟨hh', herr', hwrap'⟩, hacc'⟩ := ih (hstarted.trans hs)
    exact ⟨t, (execAll_cons_of_next htick _).trans hrun, ht, ⟨hh'.trans hh, herr'.trans herr, hwrap'.trans hwrap⟩,
      hacc'.trans hacc⟩

/-! ## Delivery and read -/

/-- The fourth quiet TICK after a command frame delivers it (41_tick.md R82, R85). -/
theorem exec_tick_delivers {s : State} {b0 b1 b2 : Byte} (hs : s.started = true) (hst : s.st = .rxBit)
    (hidle : s.idle.toNat = 3) (hh : 16 < s.h.toNat) (hbytes : s.frameBytes = some (b0, b1, b2)) :
    ∃ t, exec (.tick .high) s = .next t ∧ t.st = .idle ∧
      t.outputs = [.frame b0 b1 b2 (BitVec.ofNat 8 (s.h.toNat / 2))] := by
  have hnot : ¬ StuckLow .high s := by rintro ⟨-, -, hlevel, -⟩; cases hlevel
  have hlate : 3 < (satInc8 s.idle).toNat := by rw [satInc8_toNat, hidle]; decide
  obtain ⟨-, -, hdeliver⟩ := frameBoundaryDelivers .high s hs (.inr hst) hnot
  exact ⟨_, hdeliver b0 b1 b2 hlate hh hbytes, rfl, rfl⟩

/-- Settles O45: the frame is decoded from a clear latch, three TICKs leave it, and the fourth delivers it. -/
theorem snoopedCommandDelivered : Obligations.SnoopedCommandDelivered := by
  intro bits es t₀ late b0 b1 b2 s hs hst htimed hquiet hlate hroom hmany hbytes
  obtain ⟨v, u, es', hrun, hstarted, hidle, hv, hbegin, htimed'⟩ :=
    execAll_startBit hs (edgeEvent_low_of_idle t₀ hst) rfl hquiet htimed
  have hframe := hv ▸ hbegin.frame nofun hroom htimed'
  have hbit : v.st = .rxBit := hframe.st_of_open nofun
  obtain ⟨k, r, o, hticks, hk⟩ := execAll_quietGap (is := late.map .tick) hstarted (.inr (.inl hbit))
    (quietGap_map_tick (by simp [hidle, hlate]))
  have hk3 : k.toNat = 3 := by rw [hk, tickCount_map_tick, hlate, hidle]; rfl
  have hlen : v.h.toNat / 2 = bits.length := by rw [hframe.count, frameHalfBits_div_two]
  have hframeBytes : v.frameBytes = some (b0, b1, b2) := by
    rw [frameBytes_of_length hframe.hWrapped hlen, hframe.cmdAcc_eq rfl, hbytes]
  obtain ⟨t, htick, ht, hout⟩ := exec_tick_delivers (s := { v with idle := k, result := r, outputs := o }) hstarted hbit hk3
    (by rw [hframe.count]; exact hmany) hframeBytes
  refine ⟨t, ?_, ht, by rw [hout, hlen]⟩
  rw [execAll_append_of_next (execAll_append_of_next hrun |>.trans hticks), execAll_cons_of_next htick, execAll_nil]

theorem exec_readResponse_of_started {s : State} (hs : s.started = true) : exec .readResponse s = .next (readEvent s) :=
  whenStarted_of_started _ hs

theorem latchedResponse_of_complete {s : State} (herr : s.rxErr = false) (hh : s.h.toNat = 16) :
    latchedResponse s = .value (s.respAcc.extractLsb' 0 8) := by
  have hh' : s.h = respHalfBits := BitVec.eq_of_toNat_eq hh
  simp [latchedResponse, herr, hh']

/-- Settles O46: the response is decoded from a clear latch, TICKs leave it, the first read returns it and clears the latch,
and a clear latch reads EMPTY. -/
theorem responseReadExactlyOnce : Obligations.ResponseReadExactlyOnce := by
  intro bits es t₀ late s hs hst htimed hquiet hlen
  obtain ⟨v, u, es', hrun, hstarted, hidle, hv, hbegin, htimed'⟩ :=
    execAll_startBit hs (edgeEvent_low_of_waitRx t₀ hst) rfl hquiet htimed
  have hframe := hv ▸ hbegin.response rfl hlen.ge htimed'
  rw [List.take_of_length_le hlen.le] at hframe
  have hstop : v.st = .rxStop := hframe.st
  obtain ⟨w, hticks, hw, ⟨hh, herr, -⟩, hacc⟩ := execAll_map_tick late hstarted
  have hst' (hfew : late.length ≤ 3) : w.st = .rxStop := by
    obtain ⟨k, r, o, hgap, -⟩ := execAll_quietGap (is := late.map .tick) hstarted (.inr (.inr hstop))
      (quietGap_map_tick (by simpa [hidle] using hfew))
    cases hticks.symm.trans hgap
    exact hstop
  have hvalue : latchedResponse w = .value (BitVec.ofNat 8 (bitsValue bits)) := by
    have hbyte : (BitVec.ofNat 16 (bitsValue bits)).extractLsb' 0 8 = BitVec.ofNat 8 (bitsValue bits) :=
      BitVec.eq_of_toNat_eq (by simp)
    rw [latchedResponse_of_complete (herr.trans hframe.rxErr) (by rw [hh, hframe.count]), hacc, hframe.respAcc_eq rfl, hbyte]
  refine ⟨readEvent w, readEvent (readEvent w), ?_, hst', congrArg some hvalue, exec_readResponse_of_started hw,
    congrArg some (latchedResponse_of_latchClear (readEvent_latchClear w))⟩
  rw [execAll_append_of_next ((execAll_append_of_next hrun).trans hticks)]
  exact execAll_cons_of_next (exec_readResponse_of_started hw) []

end Sys2Proof.Machine

/-! PROOFS. What READ_RESPONSE and IS_IDLE answer, and what they write (44_response_retrieval.md R103, R104). -/

namespace Sys2Proof.Machine

open Sys2Proof

/-! ## READ_RESPONSE (R103) -/

theorem latchedResponse_of_rxErr {s : State} (herr : s.rxErr = true) : latchedResponse s = .error := if_pos herr

theorem latchedResponse_of_incomplete {s : State} (hfull : s.h.toNat ≠ 16) (hnone : s.h.toNat ≠ 0) :
    latchedResponse s = .error := by
  have hfull' : s.h ≠ respHalfBits := fun h => hfull (congrArg BitVec.toNat h)
  have hnone' : s.h ≠ 0#8 := fun h => hnone (congrArg BitVec.toNat h)
  simp [latchedResponse, hfull', hnone']

/-- R103's tests in its order: the error mark, a whole response, nothing received, and an ERROR for any other count. -/
theorem latchedResponse_eq (s : State) :
    latchedResponse s =
      if s.rxErr = true then .error
      else if s.h.toNat = 16 then .value (s.respAcc.setWidth 8)
      else if s.h.toNat = 0 then .empty else .error := by
  split
  case isTrue herr => exact latchedResponse_of_rxErr herr
  case isFalse herr =>
    have hmark : s.rxErr = false := Bool.eq_false_of_not_eq_true herr
    split
    case isTrue hfull =>
      rw [latchedResponse_of_complete hmark hfull, BitVec.setWidth_eq_extractLsb' (by decide)]
    case isFalse hfull =>
      split
      case isTrue hnone =>
        have hzero : s.h = 0#8 := BitVec.eq_of_toNat_eq hnone
        simp [latchedResponse, hmark, hzero, respHalfBits]
      case isFalse hnone => exact latchedResponse_of_incomplete hfull hnone

/-- Settles O48: the read answers what is latched, and the rest of its next state is the record with the latch cleared. -/
theorem readResponseReturnsAndClears : Obligations.ReadResponseReturnsAndClears := by
  intro s hs
  rw [exec_readResponse_of_started hs, ← latchedResponse_eq]
  rfl

/-! ## IS_IDLE (R104) -/

theorem exec_isIdle_of_started {s : State} (hs : s.started = true) : exec .isIdle s = .next (isIdleEvent s) :=
  whenStarted_of_started _ hs

/-- Settles O50: the answer is the test on the bus state, and the event writes its result and its outputs alone. -/
theorem isIdleAnswersTheBusState : Obligations.IsIdleAnswersTheBusState := by
  intro s hs
  have hanswer : (s.st == .idle) = if s.st = .idle then true else false := by
    split
    · next hidle => exact beq_iff_eq.2 hidle
    · next hidle => exact beq_eq_false_iff_ne.2 hidle
  rw [exec_isIdle_of_started hs, ← hanswer]
  rfl

end Sys2Proof.Machine

/-! PROOFS. Every state but `SHORT` comes back to `IDLE`: how many TICKs are left, and that each TICK takes one of them. -/

namespace Sys2Proof.Machine

open Sys2Proof

/-! ## How many TICKs are left (60_exceptions.md R108) -/

/-- The TICKs from a transmitting state to `TX_STOP` while no EDGE resets `idle`: those of the settling time, where the last
drives the first half of the start bit, then one for its second half, two a data bit, and one for the stop level. -/
def State.ticksToStop (s : State) : Nat :=
  match s.st with
  | .txStart1st => 26 - min 25 s.idle.toNat + (2 * s.txLen.toNat + 2)
  | .txStart2nd => 2 * s.txLen.toNat + 2
  | .txBit1st => 2 * (s.txLen.toNat - s.cursor.toNat) + 1
  | .txBit2nd => 2 * (s.txLen.toNat - s.cursor.toNat)
  | .txStop1st => 1
  | _ => 0

/-- The TICKs to `IDLE` while no EDGE resets `idle`, at most: R108's numbers of the states on the way, less the quiet TICKs
already counted. `SHORT` is not on a way to `IDLE`. -/
def State.ticksToIdle (s : State) : Nat :=
  match s.st with
  | .idle | .short => 0
  | .txStop => 4 - min 3 s.idle.toNat + 23
  | .waitRx => 23 - min 22 s.idle.toNat
  | .rxStart | .rxBit => 4 - min 3 s.idle.toNat
  | .rxStop => 5 - min 4 s.idle.toNat
  | _ => s.ticksToStop + 27

/-- The states of the block that an undisturbed run stays in, and from which its TICKs lead to `IDLE`. -/
structure State.Returning (s : State) : Prop where
  inv : s.Inv
  started : s.started = true
  notShort : s.st ≠ .short

/-- The states of a transmission. -/
structure State.Transmitting (s : State) : Prop where
  inv : s.Inv
  started : s.started = true
  transmits : isTx s.st = true

section
variable {s t : State} {l : Level}

theorem exec_edge_of_selfFeedback (hs : s.started = true) (hself : selfFeedback l s = true) (ts : BitVec 32) :
    exec (.edge l ts) s = .next (edged ts s) := by
  rw [exec_edge_of_started hs, edgeEvent_of_selfFeedback hself]

theorem ticksToStop_edged (hst : s.st ≠ .txStart1st) (ts : BitVec 32) : (edged ts s).ticksToStop = s.ticksToStop := by
  cases h : s.st <;> simp only [State.ticksToStop, edged, h]
  exact absurd h hst

theorem State.Inv.txLen_bounds (hi : s.Inv) (htx : isTx s.st = true) : 16 ≤ s.txLen.toNat ∧ s.txLen.toNat ≤ 25 := by
  rcases hi.sendLength htx with h | h | h <;> rw [h] <;> decide

theorem State.Inv.ticksToStop_le (hi : s.Inv) (htx : isTx s.st = true) : s.ticksToStop ≤ 78 := by
  obtain ⟨-, hlen⟩ := hi.txLen_bounds htx
  unfold State.ticksToStop
  split <;> omega

/-- In a transmitting state the way to `IDLE` leads through the stop condition and the response window. -/
theorem ticksToIdle_le_of_isTx (htx : isTx s.st = true) : s.ticksToIdle ≤ s.ticksToStop + 27 := by
  rcases (isTx_iff _).1 htx with h | h | h | h | h | h <;> simp only [State.ticksToIdle, h] <;> omega

theorem ticksToIdle_of_sending (htx : isTx s.st = true) (hst : s.st ≠ .txStop) :
    s.ticksToIdle = s.ticksToStop + 27 := by
  rcases (isTx_iff _).1 htx with h | h | h | h | h | h <;> simp only [State.ticksToIdle, h]
  exact absurd h hst

theorem ticksToIdle_le_of_not_isTx (htx : isTx s.st = false) : s.ticksToIdle ≤ 23 := by
  cases hst : s.st
  case txStart1st | txStart2nd | txBit1st | txBit2nd | txStop1st | txStop => simp [hst, isTx, BusState.code] at htx
  all_goals simp only [State.ticksToIdle, hst]; omega

/-- R108's numbers for a frame of 25 bits, added up: 26 + 52 + 4 + 23. -/
theorem State.Inv.ticksToIdle_le (hi : s.Inv) : s.ticksToIdle ≤ 105 := by
  cases htx : isTx s.st with
  | true => exact (ticksToIdle_le_of_isTx htx).trans (Nat.add_le_add_right (hi.ticksToStop_le htx) 27)
  | false => exact (ticksToIdle_le_of_not_isTx htx).trans (by decide)

theorem State.Returning.idle_of_ticksToIdle_eq_zero (hs : s.Returning) (h : s.ticksToIdle = 0) : s.st = .idle := by
  cases hst : s.st <;> simp only [State.ticksToIdle, hst] at h
  case idle => rfl
  case short => exact absurd hst hs.notShort
  all_goals omega

theorem ne_txStop_of_ticksToStop_pos (h : 0 < s.ticksToStop) : s.st ≠ .txStop := fun hst => by
  simp [State.ticksToStop, hst] at h

theorem ne_txStart1st_of_ticksToStop_le (h : s.ticksToStop ≤ 2 * s.txLen.toNat + 2) : s.st ≠ .txStart1st := fun hst => by
  simp only [State.ticksToStop, hst] at h
  omega

theorem eq_txStop_of_ticksToStop_eq_zero (hs : s.Transmitting) (h : s.ticksToStop = 0) : s.st = .txStop := by
  have htx := hs.transmits
  cases hst : s.st <;> simp only [State.ticksToStop, hst] at h
  case txStop => rfl
  case txStart1st | txStart2nd | txBit1st | txStop1st => omega
  case txBit2nd =>
    have hcursor : s.cursor.toNat < s.txLen.toNat := hs.inv.bitCursor (.inr hst)
    omega
  all_goals simp [hst, isTx, BusState.code] at htx

/-! ## A TICK before `TX_STOP` takes one -/

/-- The rows of a transmission before `TX_STOP`, which read no level of the line (41_tick.md R74 to R78). -/
theorem ticksToStop_tick (hi : s.Inv) (hs : s.started = true) (htx : isTx s.st = true) (hst : s.st ≠ .txStop)
    (h : exec (.tick l) s = .next t) : isTx t.st = true ∧ t.ticksToStop + 1 = s.ticksToStop := by
  obtain ⟨-, hlen⟩ := hi.txLen_bounds htx
  cases hb : s.st
  case txStart1st =>
    have hcount := satInc8_toNat s.idle
    rw [startBitWaitsForSettling l s hs hb] at h
    split at h <;> cases h
    · exact ⟨rfl, by simp only [State.ticksToStop, hb, ticked]; omega⟩
    · exact ⟨htx, by simp only [State.ticksToStop, hb, ticked]; omega⟩
  case txStart2nd =>
    cases (startBitSecondHalf l s hs hb).symm.trans h
    exact ⟨rfl, by simp [State.ticksToStop, hb, ticked]⟩
  case txBit1st =>
    have hcursor : s.cursor < s.txLen := hi.bitCursor (.inl hb)
    obtain ⟨b, hbit⟩ := Option.isSome_iff_exists.1 (currentBit_isSome hcursor (BitVec.le_def.2 (hlen.trans (by decide))))
    cases (exec_tick_of_currentBit hs hb hbit l).symm.trans h
    exact ⟨rfl, by simp only [State.ticksToStop, hb, ticked]⟩
  case txBit2nd =>
    have hcursor : s.cursor.toNat < s.txLen.toNat := hi.bitCursor (.inr hb)
    have hnext : (s.cursor + 1#8).toNat = s.cursor.toNat + 1 := by bv_omega
    rw [dataBitSecondHalf l s hs hb] at h
    split at h <;> cases h
    · exact ⟨rfl, by simp only [State.ticksToStop, hb, ticked]; omega⟩
    · exact ⟨rfl, by simp only [State.ticksToStop, hb]; omega⟩
  case txStop1st =>
    cases ((stopConditionThenResponseWindow l s hs).1 hb).symm.trans h
    exact ⟨rfl, by simp only [State.ticksToStop, hb]⟩
  case txStop => exact absurd hb hst
  all_goals simp [hb, isTx, BusState.code] at htx

/-- A TICK before `TX_STOP` goes on with the transmission, whatever level it samples. -/
theorem State.Transmitting.tick (hs : s.Transmitting) (hpos : 0 < s.ticksToStop) (l : Level) :
    ∃ t, exec (.tick l) s = .next t ∧ t.Transmitting ∧ t.txLen = s.txLen ∧ t.ticksToStop + 1 = s.ticksToStop := by
  have hexec : exec (.tick l) s = .next (tickEvent l s) := whenStarted_of_started _ hs.started
  obtain ⟨hstarted, -, -, hlen, -⟩ := tickFrame l s _ hexec
  obtain ⟨htx, hcount⟩ := ticksToStop_tick hs.inv hs.started hs.transmits (ne_txStop_of_ticksToStop_pos hpos) hexec
  exact ⟨_, hexec, ⟨exec_inv hs.inv hexec, hstarted.trans hs.started, htx⟩, hlen, hcount⟩

theorem State.Transmitting.execAll_map_tick {levels : List Level} (hs : s.Transmitting)
    (hn : levels.length ≤ s.ticksToStop) :
    ∃ t, execAll (levels.map .tick) s = .next t ∧ t.Transmitting ∧ t.txLen = s.txLen ∧
      t.ticksToStop + levels.length = s.ticksToStop := by
  induction levels generalizing s with
  | nil => exact ⟨s, rfl, hs, rfl, rfl⟩
  | cons l ls ih =>
    rw [List.length_cons] at hn ⊢
    obtain ⟨u, hexec, hu, hlen, hcount⟩ := hs.tick (by omega) l
    obtain ⟨t, hrun, ht, hlen', hcount'⟩ := ih hu (by omega)
    exact ⟨t, (execAll_cons_of_next hexec _).trans hrun, ht, hlen'.trans hlen, by omega⟩

/-- From the second half of the start bit on the TICKs do not read `idle`, so self-feedback takes none of them. -/
theorem State.Transmitting.execAll_undisturbed {is : List Instr} (hs : s.Transmitting)
    (hstart : s.ticksToStop ≤ 2 * s.txLen.toNat + 2) (hrun : Undisturbed is s) (hn : tickCount is ≤ s.ticksToStop) :
    ∃ t, execAll is s = .next t ∧ t.Transmitting ∧ t.ticksToStop + tickCount is = s.ticksToStop := by
  induction is generalizing s with
  | nil => exact ⟨s, rfl, hs, rfl⟩
  | cons i is ih =>
    obtain ⟨⟨l, rfl, -⟩ | ⟨l, ts, rfl, hself⟩, hrest⟩ := hrun
    · rw [tickCount_cons, isTick, if_pos rfl] at hn ⊢
      obtain ⟨u, hexec, hu, hlen, hcount⟩ := hs.tick (by omega) l
      obtain ⟨t, hall, ht, hcount'⟩ := ih hu (by rw [hlen]; omega) (hrest u hexec) (by omega)
      exact ⟨t, (execAll_cons_of_next hexec _).trans hall, ht, by omega⟩
    · have hexec := exec_edge_of_selfFeedback hs.started hself ts
      have hsame : (edged ts s).ticksToStop = s.ticksToStop := ticksToStop_edged (ne_txStart1st_of_ticksToStop_le hstart) ts
      rw [tickCount_cons, isTick, if_neg Bool.false_ne_true, Nat.add_zero, ← hsame] at hn ⊢
      obtain ⟨t, hall, ht, hcount⟩ := ih (s := edged ts s) ⟨{ hs.inv with }, hs.started, hs.transmits⟩
        (hsame.trans_le hstart) (hrest _ hexec) hn
      exact ⟨t, (execAll_cons_of_next hexec _).trans hall, ht, hcount⟩

/-! ## A quiet TICK takes one -/

theorem tickRxEnd_st_of_late (h : 3 < s.idle.toNat) : (tickRxEnd s).st = .idle := by
  rw [tickRxEnd, if_pos (show rxEndTicks < s.idle from h)]
  rfl

theorem ticksToIdle_tick_of_sending (hi : s.Inv) (hs : s.started = true) (htx : isTx s.st = true) (hst : s.st ≠ .txStop)
    (h : exec (.tick l) s = .next t) : t.st ≠ .short ∧ t.ticksToIdle ≤ s.ticksToIdle - 1 := by
  obtain ⟨htx', hstep⟩ := ticksToStop_tick hi hs htx hst h
  have hle := ticksToIdle_le_of_isTx htx'
  rw [ticksToIdle_of_sending htx hst]
  exact ⟨fun e => by simp [e, isTx, BusState.code] at htx', by omega⟩

/-- A TICK of an undisturbed run takes one of the TICKs that are left, where any is, and does not enter `SHORT`. -/
theorem ticksToIdle_tick (hs : s.Returning) (hquiet : l = .high ∨ isTx s.st = true) (h : exec (.tick l) s = .next t) :
    t.st ≠ .short ∧ t.ticksToIdle ≤ s.ticksToIdle - 1 := by
  obtain ⟨hinv, hstarted, hshort⟩ := hs
  have hnot : ¬ StuckLow l s := by
    rintro ⟨htx, -, hlow, -⟩
    simp [hlow, htx] at hquiet
  have hcount := satInc8_toNat s.idle
  cases hst : s.st
  case txStart1st | txStart2nd | txBit1st | txBit2nd | txStop1st =>
    exact ticksToIdle_tick_of_sending hinv hstarted (hst ▸ rfl) (hst ▸ nofun) h
  case short => exact absurd hst hshort
  case idle =>
    rw [exec_tick_of_not_stuckLow hstarted hnot, tickTable_of_idle (s := ticked s) hst] at h
    cases h
    exact ⟨hshort, by simp only [State.ticksToIdle, ticked, hst]; omega⟩
  case txStop =>
    rw [(stopConditionThenResponseWindow l s hstarted).2 hst] at h
    split at h <;> cases h
    · exact ⟨nofun, by simp only [State.ticksToIdle, hst, BitVec.toNat_ofNat]; omega⟩
    · exact ⟨hshort, by simp only [State.ticksToIdle, hst, ticked]; omega⟩
  case waitRx =>
    rw [responseWindowTimesOut l s hstarted hst hnot] at h
    split at h <;> cases h
    · exact ⟨nofun, Nat.zero_le _⟩
    · exact ⟨hshort, by simp only [State.ticksToIdle, hst, ticked]; omega⟩
  case rxStop =>
    rw [drainTimesOut l s hstarted hst hnot] at h
    split at h <;> cases h
    · exact ⟨nofun, Nat.zero_le _⟩
    · exact ⟨hshort, by simp only [State.ticksToIdle, hst, ticked]; omega⟩
  case rxStart | rxBit =>
    rw [exec_tick_of_receiving hstarted (by simp [Receiving, hst]) hnot] at h
    by_cases hlate : 3 < (satInc8 s.idle).toNat
    · have hidle := tickRxEnd_st_of_late (s := ticked s) hlate
      cases h
      exact ⟨hidle ▸ nofun, by simp only [State.ticksToIdle, hidle]; omega⟩
    · rw [tickRxEnd_of_early (s := ticked s) (by exact Nat.not_lt.1 hlate)] at h
      cases h
      exact ⟨hshort, by simp only [State.ticksToIdle, hst, ticked]; omega⟩

theorem State.Returning.tick (hs : s.Returning) (hquiet : l = .high ∨ isTx s.st = true) :
    ∃ t, exec (.tick l) s = .next t ∧ t.Returning ∧ t.ticksToIdle ≤ s.ticksToIdle - 1 := by
  have hexec : exec (.tick l) s = .next (tickEvent l s) := whenStarted_of_started _ hs.started
  obtain ⟨hstarted, -⟩ := tickFrame l s _ hexec
  obtain ⟨hshort, hcount⟩ := ticksToIdle_tick hs hquiet hexec
  exact ⟨_, hexec, ⟨exec_inv hs.inv hexec, hstarted.trans hs.started, hshort⟩, hcount⟩

theorem State.Returning.execAll_highTicks {n : Nat} (hs : s.Returning) (hn : s.ticksToIdle ≤ n) :
    ∃ t, execAll (highTicks n) s = .next t ∧ t.st = .idle := by
  induction n generalizing s with
  | zero => exact ⟨s, rfl, hs.idle_of_ticksToIdle_eq_zero (Nat.le_zero.1 hn)⟩
  | succ n ih =>
    obtain ⟨u, hexec, hu, hcount⟩ := hs.tick (.inl rfl)
    obtain ⟨t, hrun, ht⟩ := ih hu (by omega)
    exact ⟨t, (execAll_cons_of_next hexec _).trans hrun, ht⟩

/-- An undisturbed run is never refused, and never enters `SHORT`. -/
theorem State.Returning.execAll_undisturbed {is : List Instr} (hs : s.Returning) (hrun : Undisturbed is s) :
    ∃ t, execAll is s = .next t ∧ t.Returning := by
  induction is generalizing s with
  | nil => exact ⟨s, rfl, hs⟩
  | cons i is ih =>
    obtain ⟨hevent, hrest⟩ := hrun
    have hnext : ∃ u, exec i s = .next u ∧ u.Returning := by
      obtain ⟨l, rfl, hquiet⟩ | ⟨l, ts, rfl, hself⟩ := hevent
      · obtain ⟨u, hexec, hu, -⟩ := hs.tick hquiet
        exact ⟨u, hexec, hu⟩
      · exact ⟨edged ts s, exec_edge_of_selfFeedback hs.started hself ts, { hs.inv with }, hs.started, hs.notShort⟩
    obtain ⟨u, hexec, hu⟩ := hnext
    obtain ⟨t, hall, ht⟩ := ih hu (hrest u hexec)
    exact ⟨t, (execAll_cons_of_next hexec _).trans hall, ht⟩

/-! ## The stop condition (R79) -/

/-- The last `n` of the TICKs that end the stop condition: some are still to pass in `TX_STOP`, or `WAIT_RX` is entered and
`idle` counts from 0 again, so that no timeout and no stuck-low test acts there yet. -/
def State.EndsStop (n : Nat) (s : State) : Prop :=
  (s.st = .txStop ∧ 0 < n ∧ n ≤ 4 ∧ 4 ≤ s.idle.toNat + n) ∨ (s.st = .waitRx ∧ s.idle.toNat + n ≤ 3)

theorem State.EndsStop.tick {n : Nat} (hs : s.started = true) (hend : s.EndsStop (n + 1)) (l : Level) :
    ∃ t, exec (.tick l) s = .next t ∧ t.started = true ∧ t.EndsStop n := by
  have hcount := satInc8_toNat s.idle
  rcases hend with ⟨hst, -, hfew, hlast⟩ | ⟨hst, hearly⟩
  · refine ⟨_, (stopConditionThenResponseWindow l s hs).2 hst, ?_⟩
    split
    · exact ⟨hs, .inr ⟨rfl, by simp only [BitVec.toNat_ofNat]; omega⟩⟩
    · exact ⟨hs, .inl ⟨hst, by omega, by omega, by simp only [ticked]; omega⟩⟩
  · have hnot : ¬ StuckLow l s := by rintro ⟨-, -, -, hlate⟩; omega
    refine ⟨_, responseWindowTimesOut l s hs hst hnot, ?_⟩
    rw [if_neg (by omega)]
    exact ⟨hs, .inr ⟨hst, by simp only [ticked]; omega⟩⟩

theorem State.EndsStop.execAll_map_tick {levels : List Level} (hs : s.started = true) (hend : s.EndsStop levels.length) :
    ∃ t, execAll (levels.map .tick) s = .next t ∧ t.st = .waitRx := by
  induction levels generalizing s with
  | nil =>
    obtain ⟨-, hpos, -⟩ | ⟨hst, -⟩ := hend
    · exact absurd hpos (Nat.lt_irrefl 0)
    · exact ⟨s, rfl, hst⟩
  | cons l ls ih =>
    obtain ⟨u, hexec, hu, hend'⟩ := hend.tick hs l
    obtain ⟨t, hrun, ht⟩ := ih hu hend'
    exact ⟨t, (execAll_cons_of_next hexec _).trans hrun, ht⟩

end

/-- Settles O53: each TICK takes one of those left to `TX_STOP`, or of those left to `IDLE`, and self-feedback keeps the block
where quiet TICKs lead to `IDLE`; the TICKs left in each state are at most the numbers of R108. -/
theorem quietTicksReturnToIdle : Obligations.QuietTicksReturnToIdle := by
  intro s hinv hs
  have hquiet {n : Nat} (hst : s.st ≠ .short) (hn : s.ticksToIdle ≤ n) :
      ∃ t, execAll (highTicks n) s = .next t ∧ t.st = .idle := State.Returning.execAll_highTicks ⟨hinv, hs, hst⟩ hn
  refine ⟨fun levels hst hticks => ?_, fun is hst hrun hticks => ?_, fun levels hst hticks => ?_, fun hst => ?_,
    fun hst => ?_, fun hst => ?_, fun is hst hrun => ?_⟩
  · have htx : isTx s.st = true := hst ▸ rfl
    have hstart : 26 ≤ s.ticksToStop ∧ s.ticksToStop ≤ 26 + (2 * s.txLen.toNat + 2) := by
      obtain ⟨hlen, -⟩ := hinv.txLen_bounds htx
      simp only [State.ticksToStop, hst]
      omega
    obtain ⟨t, hall, ht, hlen, hcount⟩ := State.Transmitting.execAll_map_tick ⟨hinv, hs, htx⟩ (hticks.trans_le hstart.1)
    exact ⟨t, hall, ne_txStart1st_of_ticksToStop_le (by rw [hlen]; omega), ht.transmits⟩
  · have hstart : s.ticksToStop = 2 * s.txLen.toNat + 2 := by simp only [State.ticksToStop, hst]
    obtain ⟨t, hall, ht, hcount⟩ := State.Transmitting.execAll_undisturbed ⟨hinv, hs, hst ▸ rfl⟩ hstart.le hrun
      (hticks.trans_le hstart.ge)
    exact ⟨t, hall, eq_txStop_of_ticksToStop_eq_zero ht (by omega)⟩
  · exact State.EndsStop.execAll_map_tick hs (.inl ⟨hst, by omega, by omega, by omega⟩)
  · exact hquiet (hst ▸ nofun) (by simp only [State.ticksToIdle, hst]; omega)
  · rcases hst with hst | hst <;> exact hquiet (hst ▸ nofun) (by simp only [State.ticksToIdle, hst]; omega)
  · exact hquiet (hst ▸ nofun) (by simp only [State.ticksToIdle, hst]; omega)
  · obtain ⟨t, hall, ht⟩ := State.Returning.execAll_undisturbed ⟨hinv, hs, hst⟩ hrun
    rw [execAll_append_of_next hall]
    exact ht.execAll_highTicks ht.inv.ticksToIdle_le

end Sys2Proof.Machine

/-! PROOFS. The error that an event raises: its cause, the state it leaves, and its place among the notifications. -/

namespace Sys2Proof.Machine

open Sys2Proof

/-! ## The error of an event (60_exceptions.md R107) -/

/-- The error of an EDGE, by the bus state that meets it. -/
def edgeError (l : Level) (ts : BitVec 32) (s : State) : Option ErrorKind :=
  match s.st with
  | .txStart1st | .txStart2nd | .txBit1st | .txBit2nd | .txStop1st | .txStop => if l = s.txLevel then none else some .collision
  | .waitRx => if l = .high then some .cannotBeHigh else none
  | .rxStart => if l = .high ∧ classify s.cfg (ts - s.lastTs) = .half then none else some .invalidStartBit
  | .rxBit => if classify s.cfg (ts - s.lastTs) = .neither then some .timing else none
  | .idle | .rxStop | .short => none

/-- The error of an event: `RaisedWhen` as a function, so at most one. -/
def errorOf (i : Instr) (s : State) : Option ErrorKind :=
  match i with
  | .tick l => if pulldownFires l s.startEvent.countTick then some .pulldown else none
  | .edge l ts => edgeError l ts s
  | .send n _ _ _ _ => if sendLengthOk n then if s.st = .idle then none else some .busy else some .invalidParameter
  | .begin _ | .readResponse | .isIdle => none

section
variable {s t : State} {k : ErrorKind}

theorem raisedWhen_tick_iff {l : Level} : RaisedWhen (.tick l) s k ↔ errorOf (.tick l) s = some k := by
  rw [errorOf]
  cases k <;> simp [RaisedWhen, pulldownFires_iff]

theorem raisedWhen_send_iff {n b0 b1 b2 b3 : Byte} :
    RaisedWhen (.send n b0 b1 b2 b3) s k ↔ errorOf (.send n b0 b1 b2 b3) s = some k := by
  have hok : n = 16#8 ∨ n = 24#8 ∨ n = 25#8 ↔ sendLengthOk n = true := (sendLengthOk_iff n).symm
  have hbad : n ≠ 16#8 ∧ n ≠ 24#8 ∧ n ≠ 25#8 ↔ sendLengthOk n = false := by
    rw [← Bool.not_eq_true, ← hok, not_or, not_or]
  rw [errorOf]
  split
  · next hn =>
    split
    · next hst => cases k <;> simp [RaisedWhen, hbad, hst, hn]
    · next hst => cases k <;> simp [RaisedWhen, hok, hbad, hn, hst]
  · next hn => cases k <;> simp [RaisedWhen, hbad, hn]

theorem raisedWhen_edge_iff {l : Level} {ts : BitVec 32} : RaisedWhen (.edge l ts) s k ↔ edgeError l ts s = some k := by
  have hlow : l = .low ↔ l ≠ .high := ne_iff_eq_oppositeLevel l .high |>.symm
  cases hst : s.st <;> simp only [edgeError, hst]
  case rxStart =>
    rw [Option.ite_none_left_eq_some, not_and_or]
    cases k <;> simp [RaisedWhen, hst, isTx, BusState.code, hlow]
  all_goals cases k <;> simp [RaisedWhen, hst, isTx, BusState.code]

/-- The column "raised when" of R107 names for each event and state at most one error. -/
theorem raisedWhen_iff {i : Instr} : RaisedWhen i s k ↔ errorOf i s = some k := by
  cases i with
  | tick l => exact raisedWhen_tick_iff
  | edge l ts => exact raisedWhen_edge_iff
  | send n b0 b1 b2 b3 => exact raisedWhen_send_iff
  | begin | readResponse | isIdle => cases k <;> simp [RaisedWhen, errorOf]

/-! ## The order of the notifications (R111) -/

/-- The notifications of an event other than BEGIN whose error is `e`, in the order of R111. -/
def InOrder (e : Option ErrorKind) (out : List Notification) : Prop :=
  ∃ r f a, out = e.toList.map .error ++ r ++ f ++ a ∧ (r = [] ∨ r = [.tickRestart]) ∧
    (f = [] ∨ ∃ b0 b1 b2 n, f = [.frame b0 b1 b2 n]) ∧ (a = [] ∨ a = [.activity]) ∧ (e = none ∨ f = [])

theorem InOrder.error_mem_iff {e : Option ErrorKind} {out : List Notification} (h : InOrder e out) :
    .error k ∈ out ↔ e = some k := by
  obtain ⟨r, f, a, rfl, hr, hf, ha, -⟩ := h
  have hr' : .error k ∉ r := by rcases hr with rfl | rfl <;> simp
  have hf' : .error k ∉ f := by rcases hf with rfl | ⟨b0, b1, b2, n, rfl⟩ <;> simp
  have ha' : .error k ∉ a := by rcases ha with rfl | rfl <;> simp
  simp [hr', hf', ha']

theorem inOrder_error (e : Option ErrorKind) : InOrder e (e.toList.map .error) :=
  ⟨[], [], [], by simp, .inl rfl, .inl rfl, .inl rfl, .inr rfl⟩

/-- A state rule of EDGE emits the error of its row, and `TickRestart` after a collision and at a response's first edge. -/
theorem edgeRule_outputs (l : Level) (ts : BitVec 32) (s : State) :
    ∃ r, (r = [] ∨ r = [.tickRestart]) ∧
      (edgeRule l (s.delta ts) (edged ts s)).outputs = (edgeError l ts s).toList.map .error ++ r := by
  cases hst : s.st <;> simp only [edgeError, hst]
  case txStart1st | txStart2nd | txBit1st | txBit2nd | txStop1st | txStop =>
    rw [edgeRule_of_isTx (s := edged ts s) ((congrArg isTx hst).trans rfl), edgeTx]
    by_cases hl : l = s.txLevel
    · exact ⟨[], .inl rfl, by simp [edged, hl]⟩
    · exact ⟨_, .inr rfl, by simp [edged, hl]⟩
  case waitRx =>
    rw [edgeRule_of_waitRx (s := edged ts s) l _ hst]
    cases l
    exacts [⟨_, .inr rfl, rfl⟩, ⟨_, .inl rfl, rfl⟩]
  case idle => rw [edgeRule_of_idle (s := edged ts s) l _ hst]; exact ⟨_, .inl rfl, by cases l <;> rfl⟩
  case rxStart =>
    rw [edgeRule_of_rxStart (s := edged ts s) l _ hst, edgeRxStart]
    refine ⟨_, .inl rfl, ?_⟩
    split
    · next hd => rw [if_pos (by exact hd)]; rfl
    · next hd => rw [if_neg (by exact hd)]; rfl
  case rxBit =>
    rw [edgeRule_of_rxBit (s := edged ts s) l _ hst, edgeRxBit, endResponse_eq]
    refine ⟨_, .inl rfl, ?_⟩
    cases hd : classify s.cfg (ts - s.lastTs) with
    | half => rw [decoderStep_of_half (s := edged ts s) (d := s.delta ts) hd, shiftIn_if_odd_eq]; rfl
    | full => rw [decoderStep_of_full (s := edged ts s) (d := s.delta ts) hd, shiftIn_eq]; rfl
    | neither => rw [decoderStep_of_neither (s := edged ts s) (d := s.delta ts) hd]; rfl
  case rxStop => rw [edgeRule_of_rxStop (s := edged ts s) l _ hst]; exact ⟨_, .inl rfl, rfl⟩
  case short => rw [edgeRule_of_short (s := edged ts s) l _ hst]; exact ⟨_, .inl rfl, by cases l <;> rfl⟩

theorem edgeEvent_inOrder (l : Level) (ts : BitVec 32) (s : State) :
    InOrder (edgeError l ts s) (edgeEvent l ts s).outputs := by
  obtain ⟨r, hr, hrule⟩ := edgeRule_outputs l ts s
  rw [edgeEvent_eq, hrule]
  refine ⟨r, [], if activityFires l s then [.activity] else [], by simp, hr, .inl rfl, ?_, .inr rfl⟩
  split
  exacts [.inr rfl, .inl rfl]

theorem tickEvent_inOrder (l : Level) (s : State) : InOrder (errorOf (.tick l) s) (tickEvent l s).outputs := by
  rw [errorOf]
  by_cases hlow : StuckLow l s
  · rw [if_pos ((pulldownFires_iff l s).2 hlow), tickEvent_of_stuckLow hlow]
    exact inOrder_error (some .pulldown)
  · rw [if_neg (mt (pulldownFires_iff l s).1 hlow), tickEvent_of_not_stuckLow hlow]
    rcases tickTable_outputs (ticked s) with hout | ⟨b0, b1, b2, len, hout⟩
    · exact hout ▸ inOrder_error none
    · exact ⟨[], _, [], by rw [hout]; rfl, .inl rfl, .inr ⟨b0, b1, b2, len, rfl⟩, .inl rfl, .inl rfl⟩

theorem sendEvent_inOrder (n b0 b1 b2 b3 : Byte) (s : State) :
    InOrder (errorOf (.send n b0 b1 b2 b3) s) (sendEvent n b0 b1 b2 b3 s).outputs := by
  rw [errorOf]
  split
  · next hn =>
    split
    · next hst => rw [sendEvent_of_idle hn hst]; exact inOrder_error none
    · next hst => rw [sendEvent_of_busy hn hst]; exact inOrder_error (some .busy)
  · next hn => rw [sendEvent_of_invalid (by simpa using hn)]; exact inOrder_error (some .invalidParameter)

theorem exec_inOrder {i : Instr} (h : exec i s = .next t) (hi : ∀ p, i ≠ .begin p) : InOrder (errorOf i s) t.outputs := by
  cases i with
  | begin p => exact absurd rfl (hi p)
  | tick l => obtain ⟨-, rfl⟩ := whenStarted_eq_next_iff.1 h; exact tickEvent_inOrder l s
  | edge l ts => obtain ⟨-, rfl⟩ := whenStarted_eq_next_iff.1 h; exact edgeEvent_inOrder l ts s
  | send n b0 b1 b2 b3 => obtain ⟨-, rfl⟩ := whenStarted_eq_next_iff.1 h; exact sendEvent_inOrder n b0 b1 b2 b3 s
  | readResponse => obtain ⟨-, rfl⟩ := whenStarted_eq_next_iff.1 h; exact inOrder_error none
  | isIdle => obtain ⟨-, rfl⟩ := whenStarted_eq_next_iff.1 h; exact inOrder_error none

theorem outputs_of_exec_begin {p : Bool} (h : exec (.begin p) s = .next t) : t.outputs = [.tickArm] := by
  obtain ⟨-, rfl⟩ := whenUnstarted_eq_next_iff.1 h
  rfl

theorem error_mem_outputs_iff {i : Instr} (h : exec i s = .next t) : .error k ∈ t.outputs ↔ RaisedWhen i s k := by
  rw [raisedWhen_iff]
  by_cases hi : ∃ p, i = .begin p
  · obtain ⟨p, rfl⟩ := hi
    rw [outputs_of_exec_begin h]
    simp [errorOf]
  · exact (exec_inOrder h (not_exists.1 hi)).error_mem_iff

/-! ## The state an error leaves (R107) -/

/-- The column "state after" of R107, row by row. -/
theorem stateAfterError_of_raisedWhen {i : Instr} (hr : RaisedWhen i s k) (h : exec i s = .next t) :
    StateAfterError s t k := by
  cases k with
  | invalidParameter =>
    obtain ⟨n, b0, b1, b2, b3, rfl, h16, h24, h25⟩ := hr
    obtain ⟨hs, -⟩ := whenStarted_eq_next_iff.1 h
    cases (sendRejectsOtherLengths n b0 b1 b2 b3 s hs h16 h24 h25).symm.trans h
    rfl
  | busy =>
    obtain ⟨n, b0, b1, b2, b3, rfl, hn, hst⟩ := hr
    obtain ⟨hs, -⟩ := whenStarted_eq_next_iff.1 h
    cases (sendRejectsWhenBusy n b0 b1 b2 b3 s hs hn hst).symm.trans h
    rfl
  | pulldown =>
    obtain ⟨l, rfl, hlow⟩ := hr
    obtain ⟨-, rfl⟩ := whenStarted_eq_next_iff.1 h
    rw [tickEvent_of_stuckLow hlow]
    exact ⟨rfl, rfl⟩
  | collision =>
    obtain ⟨l, ts, rfl, htx, hlevel⟩ := hr
    obtain ⟨hs, -⟩ := whenStarted_eq_next_iff.1 h
    cases (collisionAbortsTheFrame l ts s hs htx hlevel).symm.trans h
    exact ⟨rfl, rfl⟩
  | cannotBeHigh =>
    obtain ⟨ts, rfl, hst⟩ := hr
    obtain ⟨-, rfl⟩ := whenStarted_eq_next_iff.1 h
    rw [edgeEvent_high_of_waitRx ts hst]
    rfl
  | invalidStartBit =>
    obtain ⟨l, ts, rfl, hst, hinvalid⟩ := hr
    obtain ⟨-, rfl⟩ := whenStarted_eq_next_iff.1 h
    have hnot : ¬ (l = .high ∧ classify s.cfg (s.delta ts) = .half) := by
      rintro ⟨rfl, hhalf⟩
      exact hinvalid.elim nofun (absurd hhalf)
    rw [edgeEvent_of_rxStart_invalid ts hst hnot]
    exact ⟨rfl, rfl⟩
  | timing =>
    obtain ⟨l, ts, rfl, hst, hneither⟩ := hr
    obtain ⟨-, rfl⟩ := whenStarted_eq_next_iff.1 h
    rw [edgeEvent_of_neither hst l hneither]
    exact ⟨rfl, rfl⟩

end

/-- Settles O54: the parts of `exec_inOrder`, and BEGIN's one notification. -/
theorem notificationOrder : Obligations.NotificationOrder := by
  intro i s t h
  split
  · next hi =>
    obtain ⟨p, rfl⟩ := hi
    exact outputs_of_exec_begin h
  · next hi =>
    obtain ⟨r, f, a, hout, hr, hf, ha, hone⟩ := exec_inOrder h (not_exists.1 hi)
    refine ⟨_, r, f, a, hout, ?_, hr, hf, ha, hone.imp_left fun e => by rw [e]; rfl⟩
    cases errorOf i s
    exacts [.inl rfl, .inr ⟨_, rfl⟩]

/-- Settles O55: the codes compute, the error of an event is the one that its cause names, and each row's state is that of the
rule that raises it. -/
theorem errorsRaisedExactlyByTheirCauses : Obligations.ErrorsRaisedExactlyByTheirCauses :=
  ⟨rfl, fun _ _ _ _ h => ⟨error_mem_outputs_iff h, fun hmem =>
    stateAfterError_of_raisedWhen ((error_mem_outputs_iff h).1 hmem) h⟩⟩

end Sys2Proof.Machine

/-! PROOFS. Who receives which notification, and the reference pin map (60_exceptions.md R112, R114, R118). -/

namespace Sys2Proof.Machine

open Sys2Proof

/-! ## The receivers of a notification (R112, R118) -/

theorem hasHandler_iff (p : Handlers) (n : Notification) :
    hasHandler p n = true ↔
      (∃ k, n = .error k) ∧ p.error = true ∨ (∃ b0 b1 b2 len, n = .frame b0 b1 b2 len) ∧ p.frame = true ∨
        n = .activity ∧ p.activity = true := by
  cases n <;> simp [hasHandler]

theorem forTickSource_iff (n : Notification) : forTickSource n = true ↔ n = .tickRestart ∨ n = .tickArm := by
  cases n <;> simp [forTickSource]

/-! ## The reference pin map (R114) -/

/-- The reference map of either side for a polarity: each level as it is, or inverted. -/
def referenceMap (pol : Bool) : LevelMap := if pol then ⟨.high, .low⟩ else ⟨.low, .high⟩

theorem bitOfLevel_applyLevelMap_referenceMap (pol : Bool) (l : Level) :
    bitOfLevel (applyLevelMap (referenceMap pol) l) = bitOfLevel l ^^^ BitVec.ofBool pol := by
  cases pol <;> cases l <;> decide

section
variable {s : State} (h : s.cfg.pinMap = PinMap.reference)
include h

theorem txPin_of_reference : s.txPin = applyLevelMap (referenceMap s.pol) s.txLevel := by
  rw [State.txPin, h]; rfl

theorem rxLevel_of_reference (pin : Level) : s.rxLevel pin = applyLevelMap (referenceMap s.pol) pin := by
  rw [State.rxLevel, h]; rfl

end

/-- Settles O59: what is delivered and what is requested are filters of the outputs, and with the reference map a pin and its
level are the same or opposite, by the polarity. -/
theorem platformReceivesItsShare : Obligations.PlatformReceivesItsShare := by
  refine fun s => ⟨fun n => ?_, List.filter_sublist, fun n => ?_, fun h => ⟨?_, fun pin => ?_⟩⟩
  · rw [State.delivered, List.mem_filter, hasHandler_iff]
  · rw [State.tickRequests, List.mem_filter, forTickSource_iff]
  · rw [txPin_of_reference h, bitOfLevel_applyLevelMap_referenceMap]
  · rw [rxLevel_of_reference h, bitOfLevel_applyLevelMap_referenceMap]

end Sys2Proof.Machine

/-! PROOFS. The state at power-on, and a frame that is delivered a second time. -/

namespace Sys2Proof.Machine

open Sys2Proof

/-! ## Power-on (70_reset_and_hazards.md R123) -/

/-- Settles O51: the reference windows are ordered, the cursor is 0, and `IDLE` has no clause of its own. -/
theorem resetMeetsInvariant : Obligations.ResetMeetsInvariant :=
  (inv_iff State.reset).2 ⟨by decide, by decide, trivial⟩

/-- Settles O10: BEGIN writes every field of the record, and every other event is refused. -/
theorem powerOnValuesUnobservable : Obligations.PowerOnValuesUnobservable := by
  intro i s s' hs hs' hpending hcfg hdraws
  by_cases hi : ∃ p, i = .begin p
  · obtain ⟨p, rfl⟩ := hi
    rw [beginWritesEveryField p s hs, beginWritesEveryField p s' hs', hpending, hcfg, hdraws]
  · have hi : ∀ p, i ≠ .begin p := not_exists.1 hi
    rw [(exec_eq_refused_iff hi).2 ⟨hs, rfl⟩, (exec_eq_refused_iff hi).2 ⟨hs', rfl⟩]

/-! ## The old frame (R129) -/

/-- The first three TICKs after an edge are a quiet gap, and the fourth delivers what the accumulator holds, whether or not a
start bit was validated: `RX_START` and `RX_BIT` share the boundary detector (41_tick.md R82). -/
theorem execAll_highTicks_delivers {s : State} {b0 b1 b2 : Byte} (hs : s.started = true) (hst : Receiving s.st)
    (hidle : s.idle = 0#8) (hh : 16 < s.h.toNat) (hbytes : s.frameBytes = some (b0, b1, b2)) :
    ∃ t, execAll (highTicks 4) s = .next t ∧ t.st = .idle ∧
      t.outputs = [.frame b0 b1 b2 (BitVec.ofNat 8 (s.h.toNat / 2))] := by
  obtain ⟨k, r, o, hquiet, hk⟩ := execAll_quietGap (is := highTicks 3) hs (hst.imp_right .inl) (by rw [hidle]; decide)
  have hk3 : k.toNat = 3 := by rw [hk, hidle]; rfl
  have hlate : 3 < (satInc8 k).toNat := by rw [satInc8_toNat, hk3]; decide
  have hnot : ¬ StuckLow .high { s with idle := k, result := r, outputs := o } := fun ⟨_, _, hlow, _⟩ => nomatch hlow
  obtain ⟨-, -, hdeliver⟩ := frameBoundaryDelivers .high { s with idle := k, result := r, outputs := o } hs hst hnot
  have htick := hdeliver b0 b1 b2 hlate hh hbytes
  exact ⟨_, (execAll_append_of_next (js := [.tick .high]) hquiet).trans (execAll_cons_of_next htick []), rfl, rfl⟩

/-- Settles O47: the `LOW` EDGE opens a capture and leaves the latch and the accumulator (43_edge_receive.md R94), so the
boundary detector finds the old frame there. -/
theorem oldFrameDeliveredAgain : Obligations.OldFrameDeliveredAgain := by
  intro ts b0 b1 b2 s hs hst hh hbytes
  have hedge := exec_edge_of_started hs .low ts
  rw [edgeEvent_low_of_idle ts hst] at hedge
  rw [execAll_cons_of_next hedge]
  exact execAll_highTicks_delivers hs (.inl rfl) rfl hh hbytes

end Sys2Proof.Machine

/-! PROOFS. The words that the spec's vectors and programs write out (95_test_vectors.md). -/

namespace Sys2Proof.Machine

open Sys2Proof

/-- The round trip read from the word's side. -/
theorem decode_of_encode_eq {w : EventWord} {i : Instr} (h : encode i = w) : decode w = .ok i :=
  h ▸ decode_encode i

/-- Settles O4: each of the seven words is the encoding of the event it stands for. -/
theorem tableWordsDecode : Obligations.TableWordsDecode := by
  have hbegin : encode (.begin true) = 0x11#64 := by decide
  have hlow : encode (.tick .low) = 0x2#64 := by decide
  have hhigh : encode (.tick .high) = 0x12#64 := by decide
  have hedge : encode (.edge .low 13901#32) = 0x0000364D00000003#64 := by decide
  have hsend : encode (.send 25#8 0x12#8 0x34#8 0x56#8 0x77#8) = 0x775634121904#64 := by decide
  have hread : encode .readResponse = 0x5#64 := by decide
  have hidle : encode .isIdle = 0x6#64 := by decide
  exact ⟨decode_of_encode_eq hbegin, decode_of_encode_eq hlow, decode_of_encode_eq hhigh, decode_of_encode_eq hedge,
    decode_of_encode_eq hsend, decode_of_encode_eq hread, decode_of_encode_eq hidle⟩

end Sys2Proof.Machine
